-- ==== Sys2Proof/Word.lean ====
section
/-! DEFINITION. The plain types every file uses: bytes, tables of fixed length, the two halves of the arena. -/

namespace Sys2Proof

/-- One byte as sent on any of the four traffic paths. -/
abbrev Byte := BitVec 8

/-- A table of `n` like things, indexed absolutely (slots, stations, lines, elements, ...). -/
structure Tab (n : Nat) (α : Type) where
  cells : Vector α n
  deriving DecidableEq, Repr

/-- The table whose entry at every index is given by a function. -/
def Tab.build {n : Nat} {α : Type} (f : Fin n → α) : Tab n α := ⟨Vector.ofFn f⟩

/-- The table with one value everywhere. -/
def Tab.fill {n : Nat} {α : Type} (x : α) : Tab n α := .build fun _ => x

/-- The entry at an index. -/
def Tab.get {n : Nat} {α : Type} (t : Tab n α) (i : Fin n) : α := t.cells[i.val]

/-- The table with the entry at one index replaced. -/
def Tab.set {n : Nat} {α : Type} (t : Tab n α) (i : Fin n) (x : α) : Tab n α := ⟨t.cells.set i.val x⟩

/-- The table with the entry at one index changed by a function. -/
def Tab.modify {n : Nat} {α : Type} (t : Tab n α) (i : Fin n) (f : α → α) : Tab n α := t.set i (f (t.get i))

/-- The table with every entry changed by a function of its index and itself. -/
def Tab.update {n : Nat} {α : Type} (t : Tab n α) (f : Fin n → α → α) : Tab n α := .build fun i => f i (t.get i)

/-- The entries in ascending order of index. -/
def Tab.toList {n : Nat} {α : Type} (t : Tab n α) : List α := (List.finRange n).map t.get

/-- Half A or half B of the arena; also the name of the match clock of that half (00_scope.md 1.4). -/
inductive Half where
  | a
  | b
  deriving DecidableEq, Repr

/-- The other half. -/
def Half.other : Half → Half
  | .a => .b
  | .b => .a

/-- Something held once for each half. -/
structure PerHalf (α : Type) where
  a : α
  b : α
  deriving DecidableEq, Repr

/-- The one of a half. -/
def PerHalf.get {α : Type} (p : PerHalf α) : Half → α
  | .a => p.a
  | .b => p.b

/-- The pair with the one of a half replaced. -/
def PerHalf.set {α : Type} (p : PerHalf α) (h : Half) (x : α) : PerHalf α :=
  match h with
  | .a => { p with a := x }
  | .b => { p with b := x }

/-- The pair with the one of a half changed by a function. -/
def PerHalf.modify {α : Type} (p : PerHalf α) (h : Half) (f : α → α) : PerHalf α := p.set h (f (p.get h))

end Sys2Proof
end

