-- ==== Sys2Proof/Syntax.lean ====
section
/-! DEFINITION. The commands: the raw records that trunk WRITE frames carry, and one constructor of `Instr` for each row of
spec/opcode_table.json. -/

namespace Sys2Proof

/-! ## Records as received (chapter 11, writable records): raw fields, before any check or clamping -/

/-- MATCH_HEADER record. The station mask travels in two bytes; its bits 12-15 have no meaning (R180). -/
structure HeaderRecord where
  number : BitVec 16
  slots : BitVec 24
  stations : BitVec 16
  autoTurnover : Byte
  deriving DecidableEq, Repr

/-- SLOT record. -/
structure SlotRecord where
  kit : BitVec 32
  station : Byte
  selector : Byte
  power : Byte
  deadband : Byte
  slew : BitVec 16
  timeout : BitVec 16
  deriving DecidableEq, Repr

/-- STATION record. -/
structure StationRecord where
  team : BitVec 16
  alliance : Byte
  hold : BitVec 16
  deriving DecidableEq, Repr

/-- One of the eight entries of a SCHEDULE record. -/
structure PhaseRecord where
  kind : Byte
  duration : BitVec 16
  profile : Byte
  deriving DecidableEq, Repr

/-- PROFILE record. -/
structure ProfileRecord where
  robotEnable : Byte
  driveAdmit : Byte
  buttons : Byte
  scale : Byte
  elementAdmit : Byte
  deriving DecidableEq, Repr

/-- The sensor part of an ELEMENT record. -/
structure SensorRecord where
  mode : Byte
  points : Byte
  deriving DecidableEq, Repr

/-- The output part of an ELEMENT record; pulse length and blink period in steps of 10 ms. -/
structure OutputRecord where
  mode : Byte
  safe : Byte
  pulse : Byte
  period : Byte
  duty : Byte
  deriving DecidableEq, Repr

/-- ELEMENT record. -/
structure ElementRecord where
  enabled : Byte
  owner : Byte
  credit : Byte
  mask : Byte
  holdLimit : BitVec 16
  holdPoints : Byte
  sensors : Tab 2 SensorRecord
  outputs : Tab 2 OutputRecord
  deriving DecidableEq, Repr

/-- ARENA_LINES record. -/
structure LineRecord where
  action : Byte
  target : Byte
  deriving DecidableEq, Repr

/-- LINK record. -/
structure LinkRecord where
  channel : Byte
  rate : Byte
  arena : Byte
  period : Byte
  join : Byte
  deriving DecidableEq, Repr

/-- A frame that arrived on the element bus: its bytes, and whether any of them had its stop bit at space (R182). -/
structure BusFrame where
  bytes : List Byte
  stopBad : Bool
  deriving DecidableEq, Repr

/-- The commands. Rows that are trunk requests carry the frame's tag and the operand bytes as received, so that the owner
judges them; the others carry what the event brings from outside. -/
inductive Instr where
  /-- POWER_ON_RESET (R177): the levels of arena lines 0-3 at its end (bit n is line n) and the transceiver's ready input. -/
  | powerOnReset (levels : BitVec 4) (ready : Bool)
  /-- ARENA_RESET (R178). -/
  | arenaReset (tag : Byte)
  /-- COUNTERS_CLEAR (R176). -/
  | countersClear (tag : Byte)
  /-- TRUNK_BYTE_RECEIVED (R165): the byte, and whether its stop bit was at space. -/
  | trunkByteReceived (byte : Byte) (stopBad : Bool)
  /-- TRUNK_GAP_TIMEOUT (R165). -/
  | trunkGapTimeout
  /-- TRUNK_FRAME_SENT (R173). -/
  | trunkFrameSent
  /-- WRITE_MATCH_HEADER (R8). -/
  | writeMatchHeader (tag clock index : Byte) (record : HeaderRecord)
  /-- WRITE_SLOT (R11). -/
  | writeSlot (tag clock index : Byte) (record : SlotRecord)
  /-- WRITE_STATION (R9). -/
  | writeStation (tag clock index : Byte) (record : StationRecord)
  /-- WRITE_SCHEDULE (R5). -/
  | writeSchedule (tag clock index : Byte) (record : Tab 8 PhaseRecord)
  /-- WRITE_PROFILE (R9). -/
  | writeProfile (tag clock index : Byte) (record : ProfileRecord)
  /-- TURNOVER (R16). -/
  | turnover (tag clock : Byte)
  /-- START (R28). -/
  | start (tag clock : Byte)
  /-- PAUSE (R29). -/
  | pause (tag clock : Byte)
  /-- RESUME (R30). -/
  | resume (tag clock : Byte)
  /-- ADVANCE (R31). -/
  | advance (tag clock : Byte)
  /-- ABORT (R32). -/
  | abort (tag clock : Byte)
  /-- REPLAY (R33). -/
  | replay (tag clock : Byte)
  /-- CLEAR (R34). -/
  | clear (tag clock : Byte)
  /-- SPLIT_SET (R38). -/
  | splitSet (tag value : Byte)
  /-- FIELD_STOP (R44). -/
  | fieldStop (tag half : Byte)
  /-- STOP_CLEAR (R45). -/
  | stopClear (tag half : Byte)
  /-- TENTH_EVENT (R35) of a clock. -/
  | tenthEvent (clock : Half)
  /-- PHASE_EXPIRY (R36) of a clock. -/
  | phaseExpiry (clock : Half)
  /-- ARENA_LINE_RISING_EDGE (R40). -/
  | arenaLineRisingEdge (line : Fin 4)
  /-- ARENA_LINE_FALLING_EDGE (R42). -/
  | arenaLineFallingEdge (line : Fin 4)
  /-- WRITE_ARENA_LINES (R40); the clock field is ignored (R169). -/
  | writeArenaLines (tag clock index : Byte) (record : LineRecord)
  /-- OVERRIDE (R51). -/
  | override (tag slot value : Byte)
  /-- STATION_RESUME (R54). -/
  | stationResume (tag line : Byte)
  /-- LINK_FLAG_CLEAR (R55). -/
  | linkFlagClear (tag slot : Byte)
  /-- CONTROL_FRAME (R57): the admission unit takes the next waiting frame, a CONTROL frame. -/
  | controlFrame
  /-- PING (R60): the admission unit takes the next waiting frame, a PING. -/
  | ping
  /-- SILENCE_TIMER_EXPIRY (R61) of a station. -/
  | silenceTimerExpiry (station : Fin 12)
  /-- CONSOLE_CHARACTER_RECEIVED (R82): the character, and whether its stop bit was at space. -/
  | consoleCharacterReceived (line : Fin 12) (byte : Byte) (framing : Bool)
  /-- GAP (R84) on a console line. -/
  | gap (line : Fin 12)
  /-- BREAK_START (R85) on a console line. -/
  | breakStart (line : Fin 12)
  /-- BREAK_END (R85) on a console line. -/
  | breakEnd (line : Fin 12)
  /-- CONSOLE_FRAME_SENT (R92) on a console line. -/
  | consoleFrameSent (line : Fin 12)
  /-- WRITE_LINK (R98); the clock field is ignored (R169). -/
  | writeLink (tag clock index : Byte) (record : LinkRecord)
  /-- APPLY_LINK (R99). -/
  | applyLink (tag : Byte)
  /-- CYCLE_BEGIN (R101), with the transceiver's ready input at that moment (R105). -/
  | cycleBegin (ready : Bool)
  /-- SLOT_WINDOW_BEGIN (R103) of the next slot on the window list, with the ready input at that moment (R105). -/
  | slotWindowBegin (ready : Bool)
  /-- SLOT_WINDOW_END (R111) of the window in progress. -/
  | slotWindowEnd
  /-- REPLY_RECEIVED (R112): the fields of an undamaged REPLY frame (chapter 11). -/
  | replyReceived (arena slot : Byte) (kit : BitVec 32) (battery : BitVec 16) (status : Byte) (payload : List Byte)
  /-- JOIN_RECEIVED (R107): the fields of an undamaged JOIN frame (chapter 11). -/
  | joinReceived (arena : Byte) (kit : BitVec 32) (kitClass : Byte)
  /-- RADIO_FRAME_DAMAGED (R181): the transceiver's judgement and the bytes it delivered; R181 judges them. -/
  | radioFrameDamaged (whole : Bool) (bytes : List Byte)
  /-- LIVENESS_EXPIRY (R113) of a slot. -/
  | livenessExpiry (slot : Fin 24)
  /-- WRITE_ELEMENT (R118); the clock field is ignored (R169). -/
  | writeElement (tag clock index : Byte) (record : ElementRecord)
  /-- ELEMENT_OUTPUT (R125). -/
  | elementOutput (tag element output value : Byte)
  /-- PULSE_EXPIRY (R123) of an output. -/
  | pulseExpiry (element : Fin 32) (output : Fin 2)
  /-- BLINK_PERIOD_END (R123) of an output. -/
  | blinkPeriodEnd (element : Fin 32) (output : Fin 2)
  /-- BUS_MODE (R132). -/
  | busMode (tag mode period : Byte)
  /-- SWEEP_START (R127). -/
  | sweepStart
  /-- POLL_BEGIN (R128). -/
  | pollBegin
  /-- POLL_END (R128): the whole frame received, or none when there was no answer or it was cut off (R182). -/
  | pollEnd (answer : Option BusFrame)
  /-- ELEMENT_BUS_STRAY_BYTES (R128): one frame of bytes with no transaction in flight. -/
  | elementBusStrayBytes (bytes : List Byte)
  /-- PASS (R133): the address, the declared number of bytes to send, the expected reply length, and the bytes. -/
  | pass (tag address count expected : Byte) (bytes : List Byte)
  /-- PASS_END (R134): the whole frame received, or none when there was no answer or it was cut off (R182). -/
  | passEnd (answer : Option BusFrame)
  /-- BUS_RESET_WAIT_END (R135). -/
  | busResetWaitEnd
  /-- HOLD_TIMER_EXPIRY (R144) of an element. -/
  | holdTimerExpiry (element : Fin 32)
  /-- CLAIM_RESET (R151). -/
  | claimReset (tag element : Byte)
  /-- CAPTURE_CLEAR (R157). -/
  | captureClear (tag element sensor : Byte)
  /-- SCORE_ADJUST (R160); the delta is a signed number. -/
  | scoreAdjust (tag clock alliance : Byte) (delta : BitVec 16)
  deriving DecidableEq, Repr

end Sys2Proof
end

