-- ==== Sys2Proof/Decode.lean ====
section
/-! DEFINITION. The table's words. No row of spec/opcode_table.json gives bits: every row's "fields" is empty and none has a
"fixed" pattern, so no word spells a command. The frames of the four traffic paths are read in Machine/Requests.lean,
Machine/Console.lean and Machine/Formats.lean. -/

namespace Sys2Proof

/-- The command that a word spells by the table's bits: none, because the table gives no row any bits. -/
def decodeTableWord (_nbits _w : Nat) : Option Instr := none

end Sys2Proof
end

