-- ==== Sys2Proof/Config.lean ====
section
/-! DEFINITION. What the spec leaves open: the free values. Nothing in Lean can evaluate them (log entry 13). -/

namespace Sys2Proof

/-- FREE VALUE, DESIGN CHOICE (log entry 13). R65 gives STATION_STATUS, for each robot selector, the slot found with its
permission and reason; no rule says what the slot, permission and reason bytes hold when no slot is found. -/
opaque Config.unfoundSelectorBytes (station : Fin 12) (selector : Fin 2) : BitVec 24

/-- FREE VALUE, DESIGN CHOICE (log entry 13). R40 and chapter 11 give the engaged action of an ARENA_LINES read as NONE when
the line has no engagement, and say nothing of the engaged target then. -/
opaque Config.unengagedTarget (line : Fin 4) : Byte

/-- FREE VALUE, DESIGN CHOICE (log entry 13). BUS_STATUS returns the kind of transaction in flight with its address (R136); no
rule gives the address when no transaction is in flight. -/
opaque Config.idleBusAddress : Byte

/-- FREE VALUE, DESIGN CHOICE (log entry 30). The level of the transceiver's ready input at a look that no command gives it for
(R105): the beacon that APPLY_LINK, ARENA_RESET or the tick begins, and the slot windows that the tick begins. Each look has a
number of its own. -/
opaque Config.transceiverReady (look : Nat) : Bool

end Sys2Proof
end

