-- ==== Sys2Proof/Machine/State.lean ====
section
/-! DEFINITION. The state of the device, block by block, as plain data; its values after power-on reset; the reasons a step
could stop. -/

namespace Sys2Proof.Machine

/-! ## Enumerations (their codes stand in Machine/Operands.lean) -/

/-- RED or BLUE. "No alliance" is `none` of `Option Alliance`. -/
inductive Alliance where
  | red
  | blue
  deriving DecidableEq, Repr

/-- Phase kinds (00_scope.md 1.4); a schedule entry of kind `none` ends the schedule. -/
inductive PhaseKind where
  | none
  | standby
  | autonomous
  | transition
  | driver
  | endgame
  | post
  deriving DecidableEq, Repr

/-- R24, R25. -/
inductive ClockState where
  | idle
  | armed
  | running
  | paused
  | ended
  deriving DecidableEq, Repr

/-- R40. -/
inductive LineAction where
  | none
  | start
  | hold
  | stop
  deriving DecidableEq, Repr

/-- R40. -/
inductive LineTarget where
  | a
  | b
  | both
  deriving DecidableEq, Repr

/-- R46. -/
inductive Override where
  | auto
  | forceEnable
  | forceDisable
  deriving DecidableEq, Repr

/-- R48: the reason of a slot's permission; `none` is the reason of an ENABLED slot. -/
inductive Permission where
  | none
  | vacant
  | noLink
  | fieldStop
  | stationStop
  | referee
  | paused
  | phase
  deriving DecidableEq, Repr

/-- R97. -/
inductive AirRate where
  | low
  | high
  deriving DecidableEq, Repr

/-- R106. -/
inductive LinkState where
  | vacant
  | searching
  | linked
  | lost
  deriving DecidableEq, Repr

/-- R115: the cause of a LINK report. -/
inductive LinkCause where
  | join
  | restart
  | reply
  | expiry
  deriving DecidableEq, Repr

/-- R117: the owner of an element. -/
inductive Owner where
  | field
  | red
  | blue
  | shared
  deriving DecidableEq, Repr

/-- R117. -/
inductive SensorMode where
  | off
  | count
  | level
  deriving DecidableEq, Repr

/-- R117, R121. -/
inductive OutputMode where
  | level
  | pulse
  | toggle
  | blink
  deriving DecidableEq, Repr

/-- R126. -/
inductive BusMode where
  | auto
  | manual
  deriving DecidableEq, Repr

/-- R126. -/
inductive Online where
  | unknown
  | online
  | offline
  deriving DecidableEq, Repr

/-- R152. -/
inductive Level where
  | low
  | high
  | unknown
  deriving DecidableEq, Repr

/-- R138: the action of an element request. -/
inductive ClaimAction where
  | claim
  | release
  | actuate
  deriving DecidableEq, Repr

/-- R139: the reasons of RELEASED and DENIED answers. -/
inductive ClaimReason where
  | none
  | invalid
  | stopped
  | half
  | offline
  | phase
  | owner
  | full
  | notHolder
  | timeout
  | referee
  deriving DecidableEq, Repr

/-- R139: the answers of the claim unit, QUEUED with the wait-list position. -/
inductive ClaimAnswer where
  | granted
  | held
  | queued (position : Nat)
  | released (reason : ClaimReason)
  | done
  | denied (reason : ClaimReason)
  deriving DecidableEq, Repr

/-- R168: result codes. -/
inductive ResultCode where
  | ok
  | clamped
  | badFrame
  | badTable
  | badIndex
  | badValue
  | wrongState
  | notReady
  | duplicateKit
  | busy
  | stillAsserted
  | timeout
  deriving DecidableEq, Repr

/-- R44, R38: where a change of a field stop latch came from. -/
inductive StopSource where
  | command
  | line (n : Fin 4)
  | split
  deriving DecidableEq, Repr

/-! ## Match tables (R1 to R8) -/

/-- R2. -/
structure Header where
  number : BitVec 16
  slots : BitVec 24
  stations : BitVec 12
  autoTurnover : Bool
  deriving DecidableEq, Repr

/-- R3. Lengths of time in milliseconds. -/
structure SlotEntry where
  kit : BitVec 32
  station : Option (Fin 12)
  selector : Fin 2
  power : Nat
  deadband : Nat
  slew : Nat
  timeout : Nat
  deriving DecidableEq, Repr

/-- R4. -/
structure StationEntry where
  team : Nat
  alliance : Option Alliance
  hold : Nat
  deriving DecidableEq, Repr

/-- R5: one entry of a phase schedule. -/
structure PhaseEntry where
  kind : PhaseKind
  duration : Nat
  profile : Fin 4
  deriving DecidableEq, Repr

/-- R6. -/
structure Profile where
  robotEnable : Bool
  driveAdmit : Bool
  buttons : Byte
  scale : Nat
  elementAdmit : Bool
  deriving DecidableEq, Repr

/-- R1: the items of one bank. -/
structure Bank where
  header : Header
  slots : Tab 24 SlotEntry
  stations : Tab 12 StationEntry
  schedule : Tab 8 PhaseEntry
  profiles : Tab 4 Profile
  deriving DecidableEq, Repr

/-- R8: the valid flags of a pending bank. -/
structure Valid where
  header : Bool
  slots : Tab 24 Bool
  stations : Tab 12 Bool
  schedule : Bool
  profiles : Tab 4 Bool
  deriving DecidableEq, Repr

/-- R1: both banks of one clock. -/
structure MatchTables where
  active : Bank
  pending : Bank
  valid : Valid
  deriving DecidableEq, Repr

/-- R7. -/
def Header.empty : Header := { number := 0, slots := 0, stations := 0, autoTurnover := false }

/-- R7. -/
def SlotEntry.empty : SlotEntry :=
  { kit := 0, station := none, selector := 0, power := 0, deadband := 0, slew := 1, timeout := 500 }

/-- R7. -/
def StationEntry.empty : StationEntry := { team := 0, alliance := none, hold := 300 }

/-- R7. -/
def PhaseEntry.empty : PhaseEntry := { kind := .none, duration := 0, profile := 0 }

/-- R7. -/
def Profile.empty : Profile := { robotEnable := false, driveAdmit := false, buttons := 0, scale := 0, elementAdmit := false }

/-- R7: a bank with every item empty. -/
def Bank.empty : Bank :=
  { header := .empty, slots := .fill .empty, stations := .fill .empty, schedule := .fill .empty, profiles := .fill .empty }

/-- R23: every valid flag clear. -/
def Valid.clear : Valid :=
  { header := false, slots := .fill false, stations := .fill false, schedule := false, profiles := .fill false }

/-! ## Match clocks and arena lines (R24, R40) -/

/-- R24. Times in tenths of a second, `tenthPos` in milliseconds into the current tenth. -/
structure Clock where
  state : ClockState
  phase : Fin 8
  remaining : Nat
  elapsed : Nat
  tenthPos : Nat
  commandHold : Bool
  lineHold : Bool
  stopHold : Bool
  fieldStop : Bool
  deriving DecidableEq, Repr

/-- R24, after power-on reset. -/
def Clock.reset : Clock :=
  { state := .idle, phase := 0, remaining := 0, elapsed := 0, tenthPos := 0, commandHold := false, lineHold := false,
    stopHold := false, fieldStop := false }

/-- R40: what a line took up at its last rising edge. -/
structure Engagement where
  action : LineAction
  target : LineTarget
  deriving DecidableEq, Repr

/-- R40. `level` is the debounced level, asserted or not. -/
structure ArenaLine where
  action : LineAction
  target : LineTarget
  level : Bool
  engaged : Option Engagement
  ignoredStarts : Nat
  deriving DecidableEq, Repr

/-- R40, after power-on reset with the line released (log entry 3). -/
def ArenaLine.reset : ArenaLine := { action := .none, target := .a, level := false, engaged := none, ignoredStarts := 0 }

/-! ## Admission unit (R46, R47) -/

/-- R46. -/
structure SlotAdmission where
  override : Override
  targets : Tab 6 Int
  lastSent : Tab 6 Int
  buttons : Byte
  stickyLost : Bool
  admitted : Nat
  discarded : Nat
  deriving DecidableEq, Repr

/-- R46, after power-on reset. -/
def SlotAdmission.reset : SlotAdmission :=
  { override := .auto, targets := .fill 0, lastSent := .fill 0, buttons := 0, stickyLost := false, admitted := 0, discarded := 0 }

/-- R47. The silence timer is `none` when stopped, else the milliseconds remaining. -/
structure StationAdmission where
  stopLatch : Bool
  silence : Option Nat
  unassigned : Nat
  noSlot : Nat
  deriving DecidableEq, Repr

/-- R47, after power-on reset. -/
def StationAdmission.reset : StationAdmission := { stopLatch := false, silence := none, unassigned := 0, noSlot := 0 }

/-! ## Console lines (R80, R81) -/

/-- R80: a set of boundaries. -/
structure Boundaries where
  gap : Bool
  loss : Bool
  brk : Bool
  deriving DecidableEq, Repr

/-- No boundary. -/
def Boundaries.empty : Boundaries := { gap := false, loss := false, brk := false }

/-- R80: an entry of a receive FIFO. -/
structure FifoEntry where
  byte : Byte
  framing : Bool
  bounds : Boundaries
  deriving DecidableEq, Repr

/-- R138: an element request as a CONTROL frame carries it. -/
structure ElementRequest where
  element : Byte
  action : ClaimAction
  output : Byte
  value : Byte
  deriving DecidableEq, Repr

/-- R90: a CONTROL frame's contents; the request is `none` when request present is N. -/
structure ControlFrame where
  selector : Byte
  channels : Tab 6 (BitVec 16)
  buttons : Byte
  request : Option ElementRequest
  deriving DecidableEq, Repr

/-- R80: a completed frame held in WAITING. -/
inductive HeldFrame where
  | control (f : ControlFrame)
  | ping
  deriving DecidableEq, Repr

/-- R80: the assembler. A frame in assembly holds every byte taken, start byte included; its declared length is the second. -/
inductive Assembler where
  | hunting
  | assembling (bytes : List Byte) (damaged : Bool)
  | waiting (held : HeldFrame)
  deriving DecidableEq, Repr

/-- R60: what a STATUS frame says of a robot selector that names a slot. -/
structure SelectorStatus where
  slot : Fin 24
  permission : Permission
  link : LinkState
  stickyLost : Bool
  deriving DecidableEq, Repr

/-- R91: frames to the console, with the contents fixed when they are queued. -/
inductive ConsoleOut where
  | telemetry (selector : Fin 2) (battery : BitVec 16) (status : Byte) (payload : List Byte)
  | elementReply (element : Byte) (answer : ClaimAnswer)
  | status (present stop brk live : Bool) (selectors : Tab 2 (Option SelectorStatus))
  deriving DecidableEq, Repr

/-- R81. -/
structure LineCounters where
  overruns : Nat
  framingErrors : Nat
  breaks : Nat
  gapTimeouts : Nat
  checkFailures : Nat
  unknownKinds : Nat
  formatErrors : Nat
  completed : Nat
  telemetryDropped : Nat
  replyLosses : Nat
  deriving DecidableEq, Repr

/-- R81, cleared. -/
def LineCounters.zero : LineCounters :=
  { overruns := 0, framingErrors := 0, breaks := 0, gapTimeouts := 0, checkFailures := 0, unknownKinds := 0, formatErrors := 0,
    completed := 0, telemetryDropped := 0, replyLosses := 0 }

/-- R80. The first frame of `queue` is the one in transmission (R92: a frame handed to an empty queue begins at once, and the
next begins when one ends); `wire` holds that frame's bytes. `gapRaised` says whether GAP has arisen in the present idle
period (R84: "once for that idle period"). -/
structure ConsoleLine where
  fifo : List FifoEntry
  pending : Boundaries
  assembler : Assembler
  breakPresent : Bool
  gapRaised : Bool
  queue : List ConsoleOut
  wire : List Byte
  counters : LineCounters
  deriving DecidableEq, Repr

/-- R80, after power-on reset. -/
def ConsoleLine.reset : ConsoleLine :=
  { fifo := [], pending := .empty, assembler := .hunting, breakPresent := false, gapRaised := false, queue := [], wire := [],
    counters := .zero }

/-! ## Radio scheduler (R97, R101, R106, R110, R116) -/

/-- R97. -/
structure LinkProfile where
  channel : Fin 16
  rate : AirRate
  arena : Byte
  period : Nat
  join : Bool
  deriving DecidableEq, Repr

/-- R97, after power-on reset. -/
def LinkProfile.reset : LinkProfile := { channel := 0, rate := .high, arena := 0, period := 20, join := true }

/-- R110. -/
structure JoinAnswer where
  kit : BitVec 32
  slot : Fin 24
  deriving DecidableEq, Repr

/-- The part of the cycle in progress (section 6.2). In a slot window, `seen` says that a REPLY has been accepted in it and
`good` that it was good (R103, R111). `between` stands between one window's end and the next one's beginning. -/
inductive CyclePart where
  | beacon
  | window (slot : Fin 24) (seen good : Bool)
  | between
  | join
  | rest
  deriving DecidableEq, Repr

/-- R116. -/
structure RadioCounters where
  stretched : Nat
  errors : Nat
  foreign : Nat
  unknownJoins : Nat
  answersDropped : Nat
  notReady : Nat
  deriving DecidableEq, Repr

/-- R116, cleared. -/
def RadioCounters.zero : RadioCounters :=
  { stretched := 0, errors := 0, foreign := 0, unknownJoins := 0, answersDropped := 0, notReady := 0 }

/-- The radio scheduler but for its per-slot state. `windows` is the cycle's window list and `toCome` what is left of it;
`position` counts the milliseconds into the cycle; `ready` is the level that the last look at the ready input found (R105);
`out` holds the bytes last handed to the transceiver. `looks` is the model's own: it counts the looks whose level no command
gives (log entry 30). -/
structure Radio where
  pendingProfile : LinkProfile
  profile : LinkProfile
  cycle : Byte
  windows : List (Fin 24)
  toCome : List (Fin 24)
  length : Nat
  stretched : Bool
  unknownJoin : Bool
  part : CyclePart
  position : Nat
  answers : List JoinAnswer
  ready : Bool
  looks : Nat
  out : List Byte
  counters : RadioCounters
  deriving DecidableEq, Repr

/-- R106. The liveness timer is `none` when stopped, else the milliseconds remaining. -/
structure SlotLink where
  state : LinkState
  liveness : Option Nat
  battery : BitVec 16
  status : Byte
  missed : Nat
  deriving DecidableEq, Repr

/-- R106, after power-on reset. -/
def SlotLink.reset : SlotLink := { state := .vacant, liveness := none, battery := 0, status := 0, missed := 0 }

/-- The first BEACON after power-on reset (R100, R102, chapter 11): arena ID 0, cycle 0, two IDLE clocks, no answers. -/
def resetBeacon : List Byte :=
  [0x01, 0x00, 0x00, 0x00, 0x00, 0x00, 0x00, 0x00, 0x00, 0x00, 0x00, 0x00, 0x00, 0x00, 0x00, 0x00, 0xC2, 0x2E]

/-- R97, R100, R116 after power-on reset: the first cycle, number 0, has begun and its BEACON was handed over (log entries 3
and 4). -/
def Radio.reset : Radio :=
  { pendingProfile := .reset, profile := .reset, cycle := 0, windows := [], toCome := [], length := 20, stretched := false,
    unknownJoin := false, part := .beacon, position := 0, answers := [], ready := true, looks := 0,
    out := resetBeacon, counters := .zero }

/-! ## Element table (R117, R121) -/

/-- R117, per sensor. -/
structure SensorConfig where
  mode : SensorMode
  points : Nat
  deriving DecidableEq, Repr

/-- R117, per output; pulse length and blink period in steps of 10 ms, duty in per cent. -/
structure OutputConfig where
  mode : OutputMode
  safe : Byte
  pulse : Nat
  period : Nat
  duty : Nat
  deriving DecidableEq, Repr

/-- R117. The hold limit is in tenths, 0 for none; bit n of the phase mask is the flag of the (n+1)-th phase kind. -/
structure ElementEntry where
  enabled : Bool
  owner : Owner
  credit : Option Alliance
  mask : BitVec 6
  holdLimit : Nat
  holdPoints : Nat
  sensors : Tab 2 SensorConfig
  outputs : Tab 2 OutputConfig
  deriving DecidableEq, Repr

/-- R117, last column. -/
def ElementEntry.empty : ElementEntry :=
  { enabled := false, owner := .field, credit := none, mask := 0, holdLimit := 0, holdPoints := 0,
    sensors := .fill { mode := .off, points := 0 },
    outputs := .fill { mode := .level, safe := 0, pulse := 10, period := 50, duty := 50 } }

/-- R121: the mode state of an output. A pulse is `none` when IDLE, else the milliseconds remaining; a blink is `none` when
STOPPED, else its position in milliseconds. -/
inductive OutputState where
  | level (held : Byte)
  | pulse (remaining : Option Nat)
  | toggle (on : Bool)
  | blink (position : Option Nat)
  deriving DecidableEq, Repr

/-- R121: the starting state of each mode. -/
def OutputMode.starting : OutputMode → OutputState
  | .level => .level 0
  | .pulse => .pulse none
  | .toggle => .toggle false
  | .blink => .blink none

/-! ## Element bus controller (R126, R136) -/

/-- R126: the transaction in flight. A poll is `void` when an ELEMENT write has made its answer be discarded (R119). -/
inductive Transaction where
  | none
  | poll (element : Fin 32) (void : Bool)
  | pass (tag address expected : Byte)
  deriving DecidableEq, Repr

/-- R126, R136, per element. -/
structure ElementLink where
  online : Online
  misses : Nat
  missedAnswers : Nat
  lastSent : Tab 2 Byte
  deriving DecidableEq, Repr

/-- R126, after power-on reset. -/
def ElementLink.reset : ElementLink := { online := .unknown, misses := 0, missedAnswers := 0, lastSent := .fill 0 }

/-- R126, R127, R136. `position` is the element last polled in the sweep in progress; `elapsed` counts the milliseconds since
the last sweep started; `due` says that the period has passed while a sweep was still in progress; `wire` holds the bytes last
sent on the bus. -/
structure Bus where
  requested : BusMode
  actual : BusMode
  period : Nat
  sweeping : Bool
  position : Option (Fin 32)
  elapsed : Nat
  due : Bool
  inFlight : Transaction
  resetWait : Bool
  wire : List Byte
  badAnswers : Nat
  overruns : Nat
  passTimeouts : Nat
  deriving DecidableEq, Repr

/-- R126, R135, R136 after power-on reset. -/
def Bus.reset : Bus :=
  { requested := .auto, actual := .auto, period := 10, sweeping := false, position := none, elapsed := 0, due := false,
    inFlight := .none, resetWait := true, wire := [], badAnswers := 0, overruns := 0, passTimeouts := 0 }

/-! ## Claims, sensors, scores (R137, R152, R159) -/

/-- R137. The hold timer is `none` when stopped, else the tenths remaining. -/
structure Claim where
  holder : Option (Fin 12)
  waiters : List (Fin 12)
  timer : Option Nat
  accumulator : Nat
  deriving DecidableEq, Repr

/-- R137: no holder, no waiters, timer stopped, accumulator 0. -/
def Claim.empty : Claim := { holder := none, waiters := [], timer := none, accumulator := 0 }

/-- R152. The baseline is `none` when UNKNOWN. -/
structure Sensor where
  count : Nat
  level : Level
  baseline : Option (BitVec 4)
  captured : Bool
  captureTime : Nat
  deriving DecidableEq, Repr

/-- R152, after power-on reset. -/
def Sensor.reset : Sensor := { count := 0, level := .unknown, baseline := none, captured := false, captureTime := 0 }

/-- R159. -/
structure Scores where
  red : Nat
  blue : Nat
  deriving DecidableEq, Repr

/-- R159: both scores 0. -/
def Scores.zero : Scores := { red := 0, blue := 0 }

/-! ## Trunk port (R164) -/

/-- R164: the frame in reception holds the bytes taken after the sync byte. -/
inductive TrunkReceiver where
  | hunting
  | receiving (bytes : List Byte) (damaged : Bool)
  deriving DecidableEq, Repr

/-- An accepted frame (R166): kind, tag and body. -/
structure TrunkFrame where
  kind : Byte
  tag : Byte
  body : List Byte
  deriving DecidableEq, Repr

/-- A formed REPLY (R168); `deferred` marks the reply of a PASS that was taken (R172). -/
structure Reply where
  tag : Byte
  code : ResultCode
  data : List Byte
  deferred : Bool
  deriving DecidableEq, Repr

/-- R174: the reports. -/
inductive Report where
  | elementEvent (element : Fin 32) (sensor : Fin 2) (delta : Nat) (level : Level) (captured : Bool) (captureTime : Nat)
  | elementState (element : Fin 32) (state : Online)
  | link (slot : Fin 24) (state : LinkState) (cause : LinkCause) (kit : BitVec 32) (kitClass : Byte)
  | joinUnknown (kit : BitVec 32) (kitClass : Byte)
  | phase (clock : Half) (index : Fin 8) (kind : PhaseKind)
  | clockState (clock : Half) (state : ClockState) (commandHold lineHold stopHold : Bool) (phase : Fin 8)
  | stop (half : Half) (source : StopSource) (set : Bool)
  | stationStop (station : Fin 12) (set : Bool)
  | turnover (clock : Half) (number : BitVec 16) (vacated conflict : BitVec 24)
  | busMode (mode : BusMode)
  deriving DecidableEq, Repr

/-- R174: a record of the report queue with its sequence number. -/
structure Record where
  seq : BitVec 16
  report : Report
  deriving DecidableEq, Repr

/-- R164, R173: the transmitter. `report` sends the record at the head of the report queue; `orphan` completes a REPORT whose
record ARENA_RESET has removed from the queue (R179). -/
inductive Transmitter where
  | idle
  | reply
  | report
  | orphan
  deriving DecidableEq, Repr

/-- R164. -/
structure TrunkCounters where
  accepted : Nat
  checkFailures : Nat
  lengthErrors : Nat
  gapTimeouts : Nat
  overflows : Nat
  reportLosses : Nat
  deriving DecidableEq, Repr

/-- R164, cleared. -/
def TrunkCounters.zero : TrunkCounters :=
  { accepted := 0, checkFailures := 0, lengthErrors := 0, gapTimeouts := 0, overflows := 0, reportLosses := 0 }

/-- R164. `wire` holds the bytes of the frame in transmission, none when IDLE. -/
structure Trunk where
  receiver : TrunkReceiver
  buffer : List TrunkFrame
  replies : List Reply
  tx : Transmitter
  wire : List Byte
  reports : List Record
  nextSeq : BitVec 16
  counters : TrunkCounters
  deriving DecidableEq, Repr

/-- R164, after power-on reset. -/
def Trunk.reset : Trunk :=
  { receiver := .hunting, buffer := [], replies := [], tx := .idle, wire := [], reports := [], nextSeq := 0, counters := .zero }

/-! ## The whole state -/

/-- The device: every piece of state the spec gives it (INVENTORY.md, State), and the queue of commands that wait. -/
structure State where
  /-- Match tables of clock A and clock B (R1). -/
  tables : PerHalf MatchTables
  /-- Match clocks (R24). -/
  clocks : PerHalf Clock
  /-- Split flag (R24). -/
  split : Bool
  /-- Arena lines 0-3 (R40). -/
  lines : Tab 4 ArenaLine
  /-- Per-slot admission state (R46). -/
  slots : Tab 24 SlotAdmission
  /-- Per-station admission state (R47). -/
  stations : Tab 12 StationAdmission
  /-- The line the admission unit served last (R47). -/
  served : Fin 12
  /-- Console lines (R80). -/
  console : Tab 12 ConsoleLine
  /-- Radio scheduler (R97, R101, R110, R116). -/
  radio : Radio
  /-- Per-slot link state (R106). -/
  links : Tab 24 SlotLink
  /-- Element entries (R117). -/
  entries : Tab 32 ElementEntry
  /-- Mode states of the outputs (R121). -/
  outputs : Tab 32 (Tab 2 OutputState)
  /-- Element bus controller (R126). -/
  bus : Bus
  /-- Per-element bus state (R126). -/
  elements : Tab 32 ElementLink
  /-- Claims (R137). -/
  claims : Tab 32 Claim
  /-- Sensors (R152). -/
  sensors : Tab 32 (Tab 2 Sensor)
  /-- Alliance scores (R159). -/
  scores : PerHalf Scores
  /-- Trunk port (R164). -/
  trunk : Trunk
  /-- The commands that wait, first in, first out (the model's own). -/
  pending : List Instr
  deriving DecidableEq, Repr

/-- The machine right after power-on reset (R177), with every arena line released and the transceiver ready (log entry 3). -/
def State.reset : State :=
  { tables := ⟨⟨.empty, .empty, .clear⟩, ⟨.empty, .empty, .clear⟩⟩
    clocks := ⟨.reset, .reset⟩
    split := false
    lines := .fill .reset
    slots := .fill .reset
    stations := .fill .reset
    served := 11
    console := .fill .reset
    radio := .reset
    links := .fill .reset
    entries := .fill .empty
    outputs := .fill (.fill OutputMode.level.starting)
    bus := .reset
    elements := .fill .reset
    claims := .fill .empty
    sensors := .fill (.fill .reset)
    scores := ⟨.zero, .zero⟩
    trunk := .reset
    pending := [] }

/-- Why the device stops: it never does. The spec names no command or event that stops it; what goes wrong on a line is a
counter, a result code, a DENIED answer or a report. -/
inductive Fault where
  deriving DecidableEq, Repr

/-- Why a command has no meaning here. -/
inductive Refusal where
  /-- Raised by an arm of `exec` whose command has no meaning yet; safe: nothing is claimed of it. No arm raises it. -/
  | notModelled (mnemonic : String)
  deriving DecidableEq, Repr

end Sys2Proof.Machine
end

