-- ==== Sys2Proof/Machine/Operands.lean ====
section
/-! DEFINITION. Operand forms: multi-byte fields, the code tables of chapter 11 in both directions, ranges. -/

namespace Sys2Proof.Machine

/-! ## Bytes and words (00_scope.md 1.4: most significant byte first) -/

/-- A two-byte field as sent. -/
def bytes16 (w : BitVec 16) : List Byte := [w.extractLsb' 8 8, w.extractLsb' 0 8]

/-- A three-byte field as sent. -/
def bytes24 (w : BitVec 24) : List Byte := [w.extractLsb' 16 8, w.extractLsb' 8 8, w.extractLsb' 0 8]

/-- A four-byte field as sent. -/
def bytes32 (w : BitVec 32) : List Byte :=
  [w.extractLsb' 24 8, w.extractLsb' 16 8, w.extractLsb' 8 8, w.extractLsb' 0 8]

/-- A two-byte field as received. -/
def word16 (b1 b0 : Byte) : BitVec 16 := b1 ++ b0

/-- A three-byte field as received. -/
def word24 (b2 b1 b0 : Byte) : BitVec 24 := b2 ++ b1 ++ b0

/-- A four-byte field as received. -/
def word32 (b3 b2 b1 b0 : Byte) : BitVec 32 := b3 ++ b2 ++ b1 ++ b0

/-- A number in a one-byte field. -/
def num8 (n : Nat) : Byte := BitVec.ofNat 8 n

/-- A number in a two-byte field. -/
def num16 (n : Nat) : List Byte := bytes16 (BitVec.ofNat 16 n)

/-- A signed number in a two-byte field, two's complement (00_scope.md 1.4). -/
def int16 (z : Int) : List Byte := bytes16 (BitVec.ofInt 16 z)

/-! ## Ranges and saturation -/

/-- A number brought into a range (R12: below the lowest becomes the lowest, above the highest the highest). -/
def clampNat (lo hi n : Nat) : Nat := max lo (min n hi)

/-- A signed number brought into a range. -/
def clampInt (lo hi z : Int) : Int := max lo (min z hi)

/-- One more, saturating at 65535 (00_scope.md 1.4). -/
def bump (n : Nat) : Nat := min (n + 1) 65535

/-- Some more, saturating at 65535. -/
def addSat (n k : Nat) : Nat := min (n + k) 65535

/-! ## Code tables of chapter 11, on receipt: `none` for a code the table does not give (R180) -/

/-- Y/N, on/off. -/
def decodeYN (b : Byte) : Option Bool := if b = 0 then some false else if b = 1 then some true else none

/-- Clock or half. -/
def decodeHalf (b : Byte) : Option Half := if b = 0 then some .a else if b = 1 then some .b else none

/-- Alliance in a WRITE or COMMAND: "none" is read only. -/
def decodeAlliance (b : Byte) : Option Alliance := if b = 1 then some .red else if b = 2 then some .blue else none

/-- Credit alliance. -/
def decodeCredit (b : Byte) : Option (Option Alliance) :=
  if b = 0 then some none else if b = 1 then some (some .red) else if b = 2 then some (some .blue) else none

/-- Phase kind. -/
def decodePhaseKind (b : Byte) : Option PhaseKind :=
  if b = 0 then some .none else if b = 1 then some .standby else if b = 2 then some .autonomous
  else if b = 3 then some .transition else if b = 4 then some .driver else if b = 5 then some .endgame
  else if b = 6 then some .post else none

/-- Owner. -/
def decodeOwner (b : Byte) : Option Owner :=
  if b = 0 then some .field else if b = 1 then some .red else if b = 2 then some .blue else if b = 3 then some .shared else none

/-- Sensor mode. -/
def decodeSensorMode (b : Byte) : Option SensorMode :=
  if b = 0 then some .off else if b = 1 then some .count else if b = 2 then some .level else none

/-- Output mode. -/
def decodeOutputMode (b : Byte) : Option OutputMode :=
  if b = 0 then some .level else if b = 1 then some .pulse else if b = 2 then some .toggle else if b = 3 then some .blink else none

/-- Line action. -/
def decodeLineAction (b : Byte) : Option LineAction :=
  if b = 0 then some .none else if b = 1 then some .start else if b = 2 then some .hold else if b = 3 then some .stop else none

/-- Line target. -/
def decodeLineTarget (b : Byte) : Option LineTarget :=
  if b = 0 then some .a else if b = 1 then some .b else if b = 2 then some .both else none

/-- Air rate. -/
def decodeAirRate (b : Byte) : Option AirRate := if b = 0 then some .low else if b = 1 then some .high else none

/-- Bus mode. -/
def decodeBusMode (b : Byte) : Option BusMode := if b = 0 then some .auto else if b = 1 then some .manual else none

/-- Override. -/
def decodeOverride (b : Byte) : Option Override :=
  if b = 0 then some .auto else if b = 1 then some .forceEnable else if b = 2 then some .forceDisable else none

/-- Claim action of a CONTROL frame. -/
def decodeClaimAction (b : Byte) : Option ClaimAction :=
  if b = 1 then some .claim else if b = 2 then some .release else if b = 3 then some .actuate else none

/-- An index below `n`. -/
def decodeIndex (n : Nat) (b : Byte) : Option (Fin n) := if h : b.toNat < n then some ⟨b.toNat, h⟩ else none

/-! ## Code tables of chapter 11, as sent -/

/-- Y/N, on/off, set/cleared, present. -/
def codeYN (b : Bool) : Byte := if b then 1 else 0

/-- Clock, half. -/
def codeHalf : Half → Byte
  | .a => 0
  | .b => 1

/-- Alliance, "none" as 0. -/
def codeAlliance : Option Alliance → Byte
  | none => 0
  | some .red => 1
  | some .blue => 2

/-- Phase kind. -/
def codePhaseKind : PhaseKind → Byte
  | .none => 0
  | .standby => 1
  | .autonomous => 2
  | .transition => 3
  | .driver => 4
  | .endgame => 5
  | .post => 6

/-- Owner. -/
def codeOwner : Owner → Byte
  | .field => 0
  | .red => 1
  | .blue => 2
  | .shared => 3

/-- Sensor mode. -/
def codeSensorMode : SensorMode → Byte
  | .off => 0
  | .count => 1
  | .level => 2

/-- Output mode. -/
def codeOutputMode : OutputMode → Byte
  | .level => 0
  | .pulse => 1
  | .toggle => 2
  | .blink => 3

/-- Line action. -/
def codeLineAction : LineAction → Byte
  | .none => 0
  | .start => 1
  | .hold => 2
  | .stop => 3

/-- Line target. -/
def codeLineTarget : LineTarget → Byte
  | .a => 0
  | .b => 1
  | .both => 2

/-- Air rate. -/
def codeAirRate : AirRate → Byte
  | .low => 0
  | .high => 1

/-- Bus mode. -/
def codeBusMode : BusMode → Byte
  | .auto => 0
  | .manual => 1

/-- Clock state. -/
def codeClockState : ClockState → Byte
  | .idle => 0
  | .armed => 1
  | .running => 2
  | .paused => 3
  | .ended => 4

/-- Hold causes: bit 0 command, bit 1 line, bit 2 stop. -/
def codeHolds (command line stop : Bool) : Byte := codeYN command ||| codeYN line <<< 1 ||| codeYN stop <<< 2

/-- Link state. -/
def codeLinkState : LinkState → Byte
  | .vacant => 0
  | .searching => 1
  | .linked => 2
  | .lost => 3

/-- Permission reason. -/
def codePermission : Permission → Byte
  | .none => 0
  | .vacant => 1
  | .noLink => 2
  | .fieldStop => 3
  | .stationStop => 4
  | .referee => 5
  | .paused => 6
  | .phase => 7

/-- Override. -/
def codeOverride : Override → Byte
  | .auto => 0
  | .forceEnable => 1
  | .forceDisable => 2

/-- Online state. -/
def codeOnline : Online → Byte
  | .unknown => 0
  | .online => 1
  | .offline => 2

/-- Level. -/
def codeLevel : Level → Byte
  | .low => 0
  | .high => 1
  | .unknown => 2

/-- Cause of a LINK report. -/
def codeLinkCause : LinkCause → Byte
  | .join => 1
  | .restart => 2
  | .reply => 3
  | .expiry => 4

/-- Reason of an element answer; code 10 is not used. -/
def codeClaimReason : ClaimReason → Byte
  | .none => 0
  | .invalid => 1
  | .stopped => 2
  | .half => 3
  | .offline => 4
  | .phase => 5
  | .owner => 6
  | .full => 7
  | .notHolder => 8
  | .timeout => 9
  | .referee => 11

/-- An element answer and its third field (R139). -/
def codeClaimAnswer : ClaimAnswer → List Byte
  | .granted => [1, 0]
  | .held => [2, 0]
  | .queued position => [3, num8 position]
  | .released reason => [4, codeClaimReason reason]
  | .done => [5, 0]
  | .denied reason => [6, codeClaimReason reason]

/-- Result code. -/
def codeResult : ResultCode → Byte
  | .ok => 0x00
  | .clamped => 0x01
  | .badFrame => 0x10
  | .badTable => 0x11
  | .badIndex => 0x12
  | .badValue => 0x13
  | .wrongState => 0x14
  | .notReady => 0x15
  | .duplicateKit => 0x16
  | .busy => 0x17
  | .stillAsserted => 0x18
  | .timeout => 0x19

/-- A station, holder or waiter, "none" as FFh. -/
def codeStation : Option (Fin 12) → Byte
  | none => 0xFF
  | some n => num8 n

/-- An event baseline, UNKNOWN as FFh ("none" in the code table). -/
def codeBaseline : Option (BitVec 4) → Byte
  | none => 0xFF
  | some c => num8 c.toNat

/-- A timer, stopped as FFFFh. -/
def codeTimer : Option Nat → List Byte
  | none => [0xFF, 0xFF]
  | some n => num16 n

end Sys2Proof.Machine
end

