-- ==== Sys2Proof/Machine/Flags.lean ====
section
/-! DEFINITION. What is derived from the state and never stored: halves, entries in force, drive permission, test mode, the
turnover lock, line holds, the values a clock publishes. -/

namespace Sys2Proof.Machine

/-! ## Halves (R39, 00_scope.md 1.4) -/

/-- The half of a slot: outside split mode everything belongs to half A. -/
def State.slotHalf (s : State) (i : Fin 24) : Half := if s.split = true ∧ 12 ≤ i.val then .b else .a

/-- The half of a station. -/
def State.stationHalf (s : State) (n : Fin 12) : Half := if s.split = true ∧ 6 ≤ n.val then .b else .a

/-- The half of an element. -/
def State.elementHalf (s : State) (e : Fin 32) : Half := if s.split = true ∧ 16 ≤ e.val then .b else .a

/-- The slots of a half as a mask. -/
def State.slotMask (s : State) (h : Half) : BitVec 24 := BitVec.ofFnLE fun i => decide (s.slotHalf i = h)

/-- The stations of a half as a mask. -/
def State.stationMask (s : State) (h : Half) : BitVec 12 := BitVec.ofFnLE fun n => decide (s.stationHalf n = h)

/-- Whether a line target includes a half: outside split mode every target is taken as A (R39, R40). -/
def State.targets (s : State) (t : LineTarget) (h : Half) : Bool :=
  if s.split then
    match t, h with
    | .a, .a => true
    | .b, .b => true
    | .both, _ => true
    | _, _ => false
  else decide (h = .a)

/-! ## Entries in force (R1) -/

/-- The active bank of a clock. -/
def State.active (s : State) (h : Half) : Bank := (s.tables.get h).active

/-- The active entry of a slot, in the bank of the clock of its half. -/
def State.slotEntry (s : State) (i : Fin 24) : SlotEntry := (s.active (s.slotHalf i)).slots.get i

/-- The active entry of a station, in the bank of the clock of its half. -/
def State.stationEntry (s : State) (n : Fin 12) : StationEntry := (s.active (s.stationHalf n)).stations.get n

/-- A station is present when its entry holds a nonzero team number (R4). -/
def StationEntry.present (e : StationEntry) : Bool := e.team != 0

/-- A clock that has been started (R25). -/
def ClockState.started : ClockState → Bool
  | .running => true
  | .paused => true
  | _ => false

/-- The phase in force: the entry at the phase index in RUNNING and PAUSED, none otherwise (R25). -/
def State.phaseInForce (s : State) (h : Half) : Option PhaseEntry :=
  if (s.clocks.get h).state.started then some ((s.active h).schedule.get (s.clocks.get h).phase) else none

/-- The profile of the phase in force. -/
def State.profileInForce (s : State) (h : Half) : Option Profile :=
  (s.phaseInForce h).map fun p => (s.active h).profiles.get p.profile

/-- The slot that a station drives through a robot selector (R57). A selector other than 0 or 1 names no slot. -/
def State.findSlot (s : State) (station : Fin 12) (selector : Byte) : Option (Fin 24) :=
  (List.finRange 24).find? fun i =>
    decide (s.slotHalf i = s.stationHalf station) && (s.slotEntry i).kit != 0 && (s.slotEntry i).station == some station
      && num8 (s.slotEntry i).selector == selector

/-! ## Drive permission (R48, R49, R71) -/

/-- R49: FORCE_ENABLE while the slot's clock is IDLE, ARMED or ENDED. -/
def State.testMode (s : State) (i : Fin 24) : Bool :=
  decide ((s.slots.get i).override = .forceEnable) && !(s.clocks.get (s.slotHalf i)).state.started

/-- The stop latch of the slot's station. -/
def State.slotStopped (s : State) (i : Fin 24) : Bool :=
  match (s.slotEntry i).station with
  | some n => (s.stations.get n).stopLatch
  | none => false

/-- Condition 6 of R48. -/
def State.motionAllowed (s : State) (i : Fin 24) : Bool :=
  s.testMode i ||
    (decide ((s.clocks.get (s.slotHalf i)).state = .running) && (s.profileInForce (s.slotHalf i)).any (·.robotEnable))

/-- R48: the reason of the first failing condition, `none` when the slot is ENABLED. -/
def State.permission (s : State) (i : Fin 24) : Permission :=
  if (s.slotEntry i).kit = 0 then .vacant
  else if (s.links.get i).state ≠ .linked then .noLink
  else if (s.clocks.get (s.slotHalf i)).fieldStop then .fieldStop
  else if s.slotStopped i then .stationStop
  else if (s.slots.get i).override = .forceDisable then .referee
  else if s.motionAllowed i then .none
  else if (s.clocks.get (s.slotHalf i)).state = .paused then .paused
  else .phase

/-- ENABLED or DISABLED. -/
def Permission.enabled (p : Permission) : Bool := decide (p = .none)

/-- R71: drive is admitted in test mode, or when the clock is started and the profile in force has drive admit Y. -/
def State.driveAdmitted (s : State) (i : Fin 24) : Bool :=
  s.testMode i || (s.profileInForce (s.slotHalf i)).any (·.driveAdmit)

/-! ## The turnover lock (R14) -/

/-- The expected slots whose pending entries are not valid. -/
def State.missingSlots (s : State) (h : Half) : BitVec 24 :=
  BitVec.ofFnLE fun i => (s.tables.get h).pending.header.slots.getLsb i && !(s.tables.get h).valid.slots.get i

/-- The expected stations whose pending entries are not valid. -/
def State.missingStations (s : State) (h : Half) : BitVec 12 :=
  BitVec.ofFnLE fun n => (s.tables.get h).pending.header.stations.getLsb n && !(s.tables.get h).valid.stations.get n

/-- Conditions 1 to 3 of R14. -/
def State.lockCore (s : State) (h : Half) : Bool :=
  (s.tables.get h).valid.header && (s.tables.get h).valid.schedule &&
    (List.finRange 4).all fun p => (s.tables.get h).valid.profiles.get p

/-- R14. -/
def State.lock (s : State) (h : Half) : Bool := s.lockCore h && s.missingSlots h == 0 && s.missingStations h == 0

/-! ## Holds and stops (R26, R42, R45) -/

/-- Whether some line is engaged with an action and a target that includes the half. -/
def State.engagedWith (s : State) (action : LineAction) (h : Half) : Bool :=
  (List.finRange 4).any fun n =>
    match (s.lines.get n).engaged with
    | some g => decide (g.action = action) && s.targets g.target h
    | none => false

/-- R42: the line hold the arena lines give a clock. -/
def State.lineHold (s : State) (h : Half) : Bool := s.engagedWith .hold h

/-- R26: a started clock is PAUSED when any hold cause is set and RUNNING when none is; other states stay. -/
def Clock.settle (c : Clock) : Clock :=
  { c with state := if c.state.started then (if c.commandHold || c.lineHold || c.stopHold then .paused else .running) else c.state }

/-! ## Published values (R37) -/

/-- The phase kind a clock publishes. -/
def State.publishedKind (s : State) (h : Half) : PhaseKind :=
  match s.phaseInForce h with
  | some p => p.kind
  | none => .none

/-- The remaining seconds a clock publishes: remaining tenths divided by 10, rounded up; 0 in IDLE and ENDED. -/
def Clock.remainingSeconds (c : Clock) : Nat :=
  match c.state with
  | .idle => 0
  | .ended => 0
  | _ => (c.remaining + 9) / 10

/-- The match number a clock publishes: 0 in IDLE, that of its active header otherwise. -/
def State.matchNumber (s : State) (h : Half) : BitVec 16 :=
  if (s.clocks.get h).state = .idle then 0 else (s.active h).header.number

/-! ## Outputs (R121, R124) -/

/-- R121: the on-time of a blink in milliseconds, the remainder discarded. -/
def OutputConfig.onTime (c : OutputConfig) : Nat := c.duty * (c.period * 10) / 100

/-- R121: the mode output. -/
def OutputState.modeOutput (c : OutputConfig) : OutputState → Byte
  | .level v => v
  | .pulse remaining => if remaining.isSome then 255 else 0
  | .toggle on => if on then 255 else 0
  | .blink none => 0
  | .blink (some position) => if position < c.onTime then 255 else 0

/-- The mode output of an output. -/
def State.modeOutput (s : State) (e : Fin 32) (k : Fin 2) : Byte :=
  ((s.outputs.get e).get k).modeOutput ((s.entries.get e).outputs.get k)

/-- R124: the safe value while the field stop latch of the element's half is set, the mode output otherwise. -/
def State.effective (s : State) (e : Fin 32) (k : Fin 2) : Byte :=
  if (s.clocks.get (s.elementHalf e)).fieldStop then ((s.entries.get e).outputs.get k).safe else s.modeOutput e k

/-! ## Phases and elements (R117, R138) -/

/-- The flag of a phase kind in a phase mask: bit 0 STANDBY up to bit 5 POST. -/
def phaseBit (mask : BitVec 6) : PhaseKind → Bool
  | .none => false
  | .standby => mask.getLsbD 0
  | .autonomous => mask.getLsbD 1
  | .transition => mask.getLsbD 2
  | .driver => mask.getLsbD 3
  | .endgame => mask.getLsbD 4
  | .post => mask.getLsbD 5

/-- Check 5 of R138: the element's clock is RUNNING, the profile in force has element admit Y, and the phase mask includes the
kind of the phase in force. -/
def State.elementPhase (s : State) (e : Fin 32) : Bool :=
  let h := s.elementHalf e
  decide ((s.clocks.get h).state = .running) && (s.profileInForce h).any (·.elementAdmit)
    && (s.phaseInForce h).any fun p => phaseBit (s.entries.get e).mask p.kind

end Sys2Proof.Machine
end

