-- ==== Sys2Proof/Machine/Formats.lean ====
section
/-! DEFINITION. Frame layouts of chapter 11 and their check values: what the device sends, byte by byte, and the bus and radio
frames it receives. -/

namespace Sys2Proof.Machine

/-! ## Check values (00_scope.md 1.4, R165) -/

/-- One bit of the CRC: x^16 + x^12 + x^5 + 1, most significant bit first. -/
def crcShift (c : BitVec 16) : BitVec 16 := if c.getLsbD 15 then (c <<< 1) ^^^ 0x1021 else c <<< 1

/-- `n` bits of the CRC. -/
def crcShifts : Nat → BitVec 16 → BitVec 16
  | 0, c => c
  | n + 1, c => crcShifts n (crcShift c)

/-- One byte of the CRC. -/
def crcByte (c : BitVec 16) (b : Byte) : BitVec 16 := crcShifts 8 (c ^^^ (b.zeroExtend 16 <<< 8))

/-- CRC-16 with initial value FFFFh, no reflection, no final inversion. -/
def crc16 (bytes : List Byte) : BitVec 16 := bytes.foldl crcByte 0xFFFF

/-- The sum of all bytes modulo 256. -/
def sum8 (bytes : List Byte) : Byte := bytes.foldl (· + ·) 0

/-- A frame with its sum check appended: the sum of all its bytes, check included, is 0 modulo 256. -/
def withSum (bytes : List Byte) : List Byte := bytes ++ [-(sum8 bytes)]

/-- A frame with its CRC appended, most significant byte first. -/
def withCrc (bytes : List Byte) : List Byte := bytes ++ bytes16 (crc16 bytes)

/-! ## Console frames (11.3) -/

/-- A console frame: start byte, length of kind and body, kind, body, sum check. -/
def consoleFrame (kind : Byte) (body : List Byte) : List Byte := withSum (0x7E :: num8 (body.length + 1) :: kind :: body)

/-- The six bytes a STATUS frame gives to a robot selector; all 0 when it names no slot. -/
def selectorBytes : Option SelectorStatus → List Byte
  | none => [0, 0, 0, 0, 0, 0]
  | some x => [1, num8 x.slot, codeYN x.permission.enabled, codePermission x.permission, codeLinkState x.link, codeYN x.stickyLost]

/-- The bytes of an outward console frame. -/
def ConsoleOut.bytes : ConsoleOut → List Byte
  | .telemetry selector battery robot payload =>
    consoleFrame 0x81 (num8 selector :: bytes16 battery ++ [robot, num8 payload.length] ++ payload)
  | .elementReply element answer => consoleFrame 0x82 (element :: codeClaimAnswer answer)
  | .status present halted brk live selectors =>
    consoleFrame 0x83 ([codeYN present, codeYN halted, codeYN brk, codeYN live]
      ++ selectorBytes (selectors.get 0) ++ selectorBytes (selectors.get 1))

/-! ## Radio frames (11.4) -/

/-- The six bytes a BEACON gives to a clock (R37, R102). -/
def State.beaconClock (s : State) (h : Half) : List Byte :=
  bytes16 (s.matchNumber h) ++ [codePhaseKind (s.publishedKind h)] ++ num16 (s.clocks.get h).remainingSeconds
    ++ [codeYN (s.clocks.get h).fieldStop]

/-- The five bytes of a join answer. -/
def JoinAnswer.bytes (a : JoinAnswer) : List Byte := bytes32 a.kit ++ [num8 a.slot]

/-- The BEACON (R102), with the first two answers of the join-answer queue. -/
def State.beacon (s : State) : List Byte :=
  withCrc ([1, s.radio.profile.arena, s.radio.cycle] ++ s.beaconClock .a ++ s.beaconClock .b
    ++ [num8 (s.radio.answers.take 2).length] ++ (s.radio.answers.take 2).flatMap JoinAnswer.bytes)

/-- The DOWNLINK to a slot (R103). -/
def State.downlink (s : State) (i : Fin 24) (enable : Bool) (channels : Tab 6 Int) (buttons : Byte) : List Byte :=
  let h := s.slotHalf i
  withCrc ([2, num8 i] ++ bytes16 (s.matchNumber h) ++ [codeYN enable, codePhaseKind (s.publishedKind h)]
    ++ num16 (s.clocks.get h).remainingSeconds ++ channels.toList.flatMap int16 ++ [buttons])

/-- An inward radio frame that is not damaged. -/
inductive RadioIn where
  | reply (arena slot : Byte) (kit : BitVec 32) (battery : BitVec 16) (status : Byte) (payload : List Byte)
  | join (arena : Byte) (kit : BitVec 32) (kitClass : Byte)
  deriving DecidableEq, Repr

/-- R181: the judgement of an inward frame, `none` for a damaged one: marked not whole, wrong CRC, a type other than REPLY or
JOIN, or a byte count that is not that of its type. -/
def judgeRadio (whole : Bool) (bytes : List Byte) : Option RadioIn :=
  if !whole || bytes.length < 2 || withCrc (bytes.take (bytes.length - 2)) ≠ bytes then none
  else
    match bytes.take (bytes.length - 2) with
    | 3 :: arena :: slot :: k3 :: k2 :: k1 :: k0 :: v1 :: v0 :: status :: count :: payload =>
      if payload.length = count.toNat then some (.reply arena slot (word32 k3 k2 k1 k0) (word16 v1 v0) status payload) else none
    | [4, arena, k3, k2, k1, k0, kitClass] => some (.join arena (word32 k3 k2 k1 k0) kitClass)
    | _ => none

/-! ## Element bus frames (11.5) -/

/-- Element e has bus address e + 1 (R39). -/
def busAddress (e : Fin 32) : Byte := num8 (e.val + 1)

/-- The poll frame of an element with the values of its two outputs. -/
def pollFrame (e : Fin 32) (v0 v1 : Byte) : List Byte := withSum [busAddress e, 0x00, v0, v1]

/-- The pass-through frame. -/
def passFrame (address : Byte) (bytes : List Byte) : List Byte := withSum (address :: num8 bytes.length :: bytes)

/-- What a good poll answer carries (R128): the levels and event counters of both sensors, and the RESTARTED flag. -/
structure PollReading where
  levels : Tab 2 Level
  counters : Tab 2 (BitVec 4)
  restarted : Bool
  deriving DecidableEq, Repr

/-- A level bit: 1 is HIGH. -/
def levelOfBit (b : Bool) : Level := if b then .high else .low

/-- R128, R182: a poll answer is good when it holds exactly 5 bytes, none with a bad stop bit, its sum is 0 modulo 256 and it
carries the address polled. -/
def judgePoll (e : Fin 32) (f : BusFrame) : Option PollReading :=
  match f.bytes with
  | [address, levels, counters, status, _check] =>
    if f.stopBad || sum8 f.bytes ≠ 0 || address ≠ busAddress e then none
    else some
      { levels := .build fun k => levelOfBit (levels.getLsbD k.val)
        counters := .build fun k => counters.extractLsb' (4 * k.val) 4
        restarted := status.getLsbD 0 }
  | _ => none

/-- R134, R182: the bytes of a good pass-through answer: the address, exactly the expected number of bytes, the sum check. -/
def judgePass (address expected : Byte) (f : BusFrame) : Option (List Byte) :=
  if f.stopBad || sum8 f.bytes ≠ 0 || f.bytes.length ≠ expected.toNat + 2 || f.bytes.head? ≠ some address then none
  else some ((f.bytes.drop 1).take expected.toNat)

/-! ## Trunk frames (11.2) -/

/-- A trunk frame: sync byte, two-byte length of kind, tag and body, kind, tag, body, CRC over the length through the body. -/
def trunkFrame (kind tag : Byte) (body : List Byte) : List Byte :=
  0xA5 :: withCrc (num16 (body.length + 2) ++ [kind, tag] ++ body)

/-- The bytes of a REPLY frame. -/
def Reply.bytes (r : Reply) : List Byte := trunkFrame 0x81 r.tag (codeResult r.code :: r.data)

/-- The kind code and the fields of a report record. -/
def Report.bytes : Report → Byte × List Byte
  | .elementEvent e k delta level captured time =>
    (1, [num8 e, num8 k, num8 delta, codeLevel level, codeYN captured] ++ num16 time)
  | .elementState e state => (2, [num8 e, codeOnline state])
  | .link i state cause kit kitClass => (3, [num8 i, codeLinkState state, codeLinkCause cause] ++ bytes32 kit ++ [kitClass])
  | .joinUnknown kit kitClass => (4, bytes32 kit ++ [kitClass])
  | .phase h index kind => (5, [codeHalf h, num8 index, codePhaseKind kind])
  | .clockState h state c l p index =>
    (6, [codeHalf h, codeClockState state, codeHolds c l p, num8 index])
  | .stop h .command set => (7, [codeHalf h, 0, 0, codeYN set])
  | .stop h (.line n) set => (7, [codeHalf h, 1, num8 n, codeYN set])
  | .stop h .split set => (7, [codeHalf h, 2, 0, codeYN set])
  | .stationStop n set => (8, [num8 n, codeYN set])
  | .turnover h number vacated conflict => (9, codeHalf h :: bytes16 number ++ bytes24 vacated ++ bytes24 conflict)
  | .busMode mode => (10, [codeBusMode mode])

/-- The bytes of a REPORT frame: tag 0, the sequence number and the record (R173). -/
def Record.bytes (r : Record) : List Byte := trunkFrame 0x82 0 (bytes16 r.seq ++ r.report.bytes.1 :: r.report.bytes.2)

end Sys2Proof.Machine
end

