-- ==== Sys2Proof/Machine/Ops.lean ====
section
/-! DEFINITION. The named operations: one-field updates, the transmitter and the report queue, replies, the console transmit
queues, and the verdict an owner gives on a trunk request. -/

namespace Sys2Proof.Machine

/-! ## One-field updates -/

def State.setTables (s : State) (h : Half) (f : MatchTables → MatchTables) : State := { s with tables := s.tables.modify h f }
def State.setClock (s : State) (h : Half) (f : Clock → Clock) : State := { s with clocks := s.clocks.modify h f }
def State.setLine (s : State) (n : Fin 4) (f : ArenaLine → ArenaLine) : State := { s with lines := s.lines.modify n f }
def State.setSlot (s : State) (i : Fin 24) (f : SlotAdmission → SlotAdmission) : State := { s with slots := s.slots.modify i f }
def State.setSlots (s : State) (f : Fin 24 → SlotAdmission → SlotAdmission) : State := { s with slots := s.slots.update f }
def State.setStation (s : State) (n : Fin 12) (f : StationAdmission → StationAdmission) : State :=
  { s with stations := s.stations.modify n f }
def State.setStations (s : State) (f : Fin 12 → StationAdmission → StationAdmission) : State :=
  { s with stations := s.stations.update f }
def State.setConsole (s : State) (n : Fin 12) (f : ConsoleLine → ConsoleLine) : State := { s with console := s.console.modify n f }
def State.setRadio (s : State) (f : Radio → Radio) : State := { s with radio := f s.radio }
def State.countRadio (s : State) (f : RadioCounters → RadioCounters) : State :=
  { s with radio := { s.radio with counters := f s.radio.counters } }
def State.setLink (s : State) (i : Fin 24) (f : SlotLink → SlotLink) : State := { s with links := s.links.modify i f }
def State.setLinks (s : State) (f : Fin 24 → SlotLink → SlotLink) : State := { s with links := s.links.update f }
def State.setOutput (s : State) (e : Fin 32) (k : Fin 2) (f : OutputState → OutputState) : State :=
  { s with outputs := s.outputs.modify e (·.modify k f) }
def State.setBus (s : State) (f : Bus → Bus) : State := { s with bus := f s.bus }
def State.setElement (s : State) (e : Fin 32) (f : ElementLink → ElementLink) : State :=
  { s with elements := s.elements.modify e f }
def State.setClaim (s : State) (e : Fin 32) (f : Claim → Claim) : State := { s with claims := s.claims.modify e f }
def State.setClaims (s : State) (f : Fin 32 → Claim → Claim) : State := { s with claims := s.claims.update f }
def State.setSensor (s : State) (e : Fin 32) (k : Fin 2) (f : Sensor → Sensor) : State :=
  { s with sensors := s.sensors.modify e (·.modify k f) }
def State.setSensors (s : State) (f : Fin 32 → Fin 2 → Sensor → Sensor) : State :=
  { s with sensors := s.sensors.update fun e t => t.update (f e) }
def State.setScores (s : State) (h : Half) (f : Scores → Scores) : State := { s with scores := s.scores.modify h f }
def State.setTrunk (s : State) (f : Trunk → Trunk) : State := { s with trunk := f s.trunk }

/-! ## Trunk transmitter, report queue and replies (R168, R173, R174) -/

/-- R173: an IDLE transmitter begins the oldest waiting REPLY, else the REPORT at the head of the report queue. -/
def Trunk.choose (t : Trunk) : Trunk :=
  match t.tx with
  | .idle =>
    match t.replies, t.reports with
    | r :: rest, _ => { t with tx := .reply, wire := r.bytes, replies := rest }
    | [], record :: _ => { t with tx := .report, wire := record.bytes }
    | [], [] => t
  | _ => t

/-- R174: a record receives the next sequence number and joins the queue at its tail, or is dropped and counted at 32. -/
def Trunk.record (t : Trunk) (r : Report) : Trunk :=
  if t.reports.length < 32 then { t with reports := t.reports ++ [⟨t.nextSeq, r⟩], nextSeq := t.nextSeq + 1 }
  else { t with nextSeq := t.nextSeq + 1, counters := { t.counters with reportLosses := bump t.counters.reportLosses } }

/-- A report is handed to the report queue (R174), and an IDLE transmitter takes its choice in the same event (R173). -/
def State.report (s : State) (r : Report) : State := s.setTrunk fun t => (t.record r).choose

/-- R168, R173: a REPLY joins the waiting replies at their tail, and an IDLE transmitter begins it in the same event. -/
def State.reply (s : State) (r : Reply) : State := s.setTrunk fun t => ({ t with replies := t.replies ++ [r] } : Trunk).choose

/-- A REPLY formed by a dispatch. -/
def State.answer (s : State) (tag : Byte) (code : ResultCode) (data : List Byte) : State := s.reply ⟨tag, code, data, false⟩

/-- The records of the report queue whose transmission has begun (R174: only the head's can have). -/
def Trunk.begun (t : Trunk) : List Record := if t.tx = .report then t.reports.take 1 else []

/-- The records that have not begun transmission. -/
def Trunk.unbegun (t : Trunk) : List Record := if t.tx = .report then t.reports.drop 1 else t.reports

/-- R161: whether a record is an ELEMENT_EVENT of an element and sensor. -/
def Report.isEvent (e : Fin 32) (k : Fin 2) : Report → Bool
  | .elementEvent e' k' _ _ _ _ => decide (e' = e ∧ k' = k)
  | _ => false

/-- R161: a waiting ELEMENT_EVENT record takes up `n` more events, its delta holding at 255, and the sensor's present level,
capture flag and capture time. It keeps its place and its number. -/
def coalesce (e : Fin 32) (k : Fin 2) (n : Nat) (level : Level) (captured : Bool) (time : Nat) : List Record → List Record
  | [] => []
  | r :: rest =>
    match r.report with
    | .elementEvent e' k' delta _ _ _ =>
      if e' = e ∧ k' = k then ⟨r.seq, .elementEvent e k (min (delta + n) 255) level captured time⟩ :: rest
      else r :: coalesce e k n level captured time rest
    | _ => r :: coalesce e k n level captured time rest

/-- R161: an ELEMENT_EVENT is coalesced into the sensor's waiting record that has not begun transmission, else queued. -/
def State.reportEvent (s : State) (e : Fin 32) (k : Fin 2) (n : Nat) (level : Level) (captured : Bool) (time : Nat) : State :=
  if s.trunk.unbegun.any (·.report.isEvent e k) then
    s.setTrunk fun t => { t with reports := t.begun ++ coalesce e k n level captured time t.unbegun }
  else s.report (.elementEvent e k n level captured time)

/-- The CLOCK_STATE report of a clock (R25). -/
def State.reportClock (s : State) (h : Half) : State :=
  let c := s.clocks.get h
  s.report (.clockState h c.state c.commandHold c.lineHold c.stopHold c.phase)

/-! ## Requests: verdict and REPLY (R27, R168, R171) -/

/-- An owner's verdict on a request: refused with a code, or taken with a code (OK or CLAMPED) and an effect. -/
inductive Verdict where
  | refuse (code : ResultCode)
  | take (code : ResultCode) (effect : State → State)

/-- A condition that refuses with a code when it fails. -/
def Verdict.require (b : Bool) (code : ResultCode) (v : Verdict) : Verdict := if b then v else .refuse code

/-- An operand that refuses with a code when its field holds a code the table does not give (R180). -/
def Verdict.need {α : Type} (x : Option α) (code : ResultCode) (k : α → Verdict) : Verdict :=
  match x with
  | some a => k a
  | none => .refuse code

/-- OK, or CLAMPED when a number was brought into its range. -/
def codeOf (clamped : Bool) : ResultCode := if clamped then .clamped else .ok

/-- The one event of a request at its owner: the REPLY is formed, and a taken request has its effect. The reports of the
effect are handed to the report queue after the REPLY is formed (R27, R171). -/
def State.carryOut (s : State) (tag : Byte) : Verdict → State
  | .refuse code => s.answer tag code []
  | .take code effect => effect (s.answer tag code [])

/-- The clock or half operand of a request (R9 check 1, R13, R16, R27): BAD_VALUE for a code other than A or B, WRONG_STATE for
B outside split mode. -/
def State.clockOperand (s : State) (clock : Byte) (k : Half → Verdict) : Verdict :=
  .need (decodeHalf clock) .badValue fun h => .require (decide (h = .a) || s.split) .wrongState (k h)

/-! ## Console transmit queues (R92 to R94) -/

/-- A frame joins a queue at its tail; handed to an empty queue it begins transmission at once (R92). -/
def ConsoleLine.push (l : ConsoleLine) (f : ConsoleOut) : ConsoleLine :=
  { l with queue := l.queue ++ [f], wire := if l.queue = [] then f.bytes else l.wire }

/-- The queue without its oldest TELEMETRY frame, `none` when it holds none. -/
def evictTelemetry : List ConsoleOut → Option (List ConsoleOut)
  | [] => none
  | .telemetry _ _ _ _ :: rest => some rest
  | f :: rest => (evictTelemetry rest).map (f :: ·)

/-- The queue with its TELEMETRY frame for a selector replaced in its place, `none` when it holds none. -/
def replaceTelemetry (selector : Fin 2) (new : ConsoleOut) : List ConsoleOut → Option (List ConsoleOut)
  | [] => none
  | .telemetry k v st p :: rest =>
    if k = selector then some (new :: rest) else (replaceTelemetry selector new rest).map (.telemetry k v st p :: ·)
  | f :: rest => (replaceTelemetry selector new rest).map (f :: ·)

/-- R94: a reply joins the tail, or evicts the oldest TELEMETRY frame that has not begun, or is dropped. -/
def ConsoleLine.pushReply (l : ConsoleLine) (f : ConsoleOut) : ConsoleLine :=
  if l.queue.length < 4 then l.push f
  else
    match evictTelemetry l.queue.tail with
    | some rest =>
      { l with queue := l.queue.take 1 ++ rest ++ [f]
               counters := { l.counters with telemetryDropped := bump l.counters.telemetryDropped } }
    | none => { l with counters := { l.counters with replyLosses := bump l.counters.replyLosses } }

/-- R93: a TELEMETRY frame replaces the one for its selector that has not begun, or joins the tail, or is dropped. -/
def ConsoleLine.pushTelemetry (l : ConsoleLine) (selector : Fin 2) (f : ConsoleOut) : ConsoleLine :=
  match replaceTelemetry selector f l.queue.tail with
  | some rest => { l with queue := l.queue.take 1 ++ rest }
  | none =>
    if l.queue.length < 4 then l.push f
    else { l with counters := { l.counters with telemetryDropped := bump l.counters.telemetryDropped } }

/-- An ELEMENT_REPLY is handed to a station's console line (R139). -/
def State.tell (s : State) (station : Fin 12) (element : Byte) (answer : ClaimAnswer) : State :=
  s.setConsole station (·.pushReply (.elementReply element answer))

/-! ## Outputs (R122) -/

/-- R122: a value applied to an output. -/
def OutputState.apply (c : OutputConfig) (v : Byte) : OutputState → OutputState
  | .level _ => .level v
  | .pulse _ => if v = 0 then .pulse none else .pulse (some (c.pulse * 10))
  | .toggle on => if v = 0 then .toggle on else .toggle !on
  | .blink position => if v = 0 then .blink none else .blink (some (position.getD 0))

/-- A value is applied to an output of an element. -/
def State.applyOutput (s : State) (e : Fin 32) (k : Fin 2) (v : Byte) : State :=
  s.setOutput e k (·.apply ((s.entries.get e).outputs.get k) v)

/-! ## Scores (R159) -/

/-- Points are added to one alliance score of a clock, saturating at 65535. -/
def State.credit (s : State) (h : Half) (points : Nat) : Alliance → State
  | .red => s.setScores h fun x => { x with red := addSat x.red points }
  | .blue => s.setScores h fun x => { x with blue := addSat x.blue points }

end Sys2Proof.Machine
end

