-- ==== Sys2Proof/Machine/Claims.lean ====
section
/-! DEFINITION. The claim unit (chapter 8): request checks, CLAIM, RELEASE and ACTUATE, promotion, hold timers and hold points,
flushes, CLAIM_RESET and HOLD_TIMER_EXPIRY. -/

namespace Sys2Proof.Machine

/-- The elements in ascending order, as flushes and stops take them (R146, R147), and tenths by the model's choice (log entry 33). -/
def allElements : List (Fin 32) := List.finRange 32

/-- R140, R143: a hold timer loaded with the hold limit, stopped when the limit is 0. -/
def loadTimer (limit : Nat) : Option Nat := if limit = 0 then none else some limit

/-- R140, R143: a station becomes the holder, with a fresh timer and accumulator. -/
def State.grant (s : State) (e : Fin 32) (station : Fin 12) (waiters : List (Fin 12)) : State :=
  s.setClaim e fun _ =>
    { holder := some station, waiters := waiters, timer := loadTimer (s.entries.get e).holdLimit, accumulator := 0 }

/-- R143: an element that has lost its holder promotes its head waiter with an unsolicited GRANTED, or is left free. -/
def State.promote (s : State) (e : Fin 32) : State :=
  match (s.claims.get e).waiters with
  | [] => s.setClaim e fun _ => .empty
  | w :: rest => (s.grant e w rest).tell w (num8 e) .granted

/-- R144: the expiry of a hold timer: the holder is told RELEASED TIMEOUT and the element promotes. -/
def State.expireHold (s : State) (e : Fin 32) : State :=
  match (s.claims.get e).holder with
  | some n => (s.tell n (num8 e) (.released .timeout)).promote e
  | none => s

/-- R146: a flush with an answering reason; the holder is answered first, then each waiter from head to tail. A flush of an
element with no holder and no waiters changes nothing. -/
def State.flush (s : State) (reason : ClaimReason) (e : Fin 32) : State :=
  let c := s.claims.get e
  if c.holder = none ∧ c.waiters = [] then s
  else
    let freed := s.setClaim e fun _ => .empty
    let told := match c.holder with
      | some n => freed.tell n (num8 e) (.released reason)
      | none => freed
    c.waiters.foldl (fun s w => s.tell w (num8 e) (.denied reason)) told

/-- Whether an element is a shared element of a half. -/
def State.sharedIn (s : State) (h : Half) (e : Fin 32) : Bool :=
  decide (s.elementHalf e = h) && decide ((s.entries.get e).owner = .shared)

/-- R148: every shared element of a half is flushed with reason STOPPED when the half's field stop latches. -/
def State.flushStopped (s : State) (h : Half) : State :=
  allElements.foldl (fun t e => if s.sharedIn h e then t.flush .stopped e else t) s

/-- R148: at a phase boundary, the shared elements of the half are flushed with reason PHASE when their phase mask excludes the
new kind or the new profile has element admit N. -/
def State.flushPhase (s : State) (h : Half) (kind : PhaseKind) (profile : Profile) : State :=
  allElements.foldl
    (fun t e =>
      if s.sharedIn h e && (!phaseBit (s.entries.get e).mask kind || !profile.elementAdmit) then t.flush .phase e else t) s

/-- R150: the claims of a half are emptied without answers. -/
def State.flushSilent (s : State) (h : Half) : State :=
  s.setClaims fun e c => if s.elementHalf e = h then .empty else c

/-- R147: a stopped station is taken out of the claim of one element. -/
def State.dropStation (s : State) (station : Fin 12) (e : Fin 32) : State :=
  let c := s.claims.get e
  if c.holder = some station then (s.tell station (num8 e) (.released .stopped)).promote e
  else if station ∈ c.waiters then
    (s.setClaim e fun c => { c with waiters := c.waiters.filter (· ≠ station) }).tell station (num8 e) (.denied .stopped)
  else s

/-- R147: a stopped station is taken out of every claim, elements in ascending order. -/
def State.dropClaims (s : State) (station : Fin 12) : State := allElements.foldl (fun t e => t.dropStation station e) s

/-- R145: a held shared element with hold points accrues one tenth, and credits its holder's alliance at the tenth tenth. -/
def State.accrue (s : State) (h : Half) (e : Fin 32) : State :=
  let points := (s.entries.get e).holdPoints
  let c := s.claims.get e
  match c.holder with
  | none => s
  | some n =>
    if points = 0 then s
    else if c.accumulator + 1 < 10 then s.setClaim e fun c => { c with accumulator := c.accumulator + 1 }
    else
      let t := s.setClaim e fun c => { c with accumulator := c.accumulator + 1 - 10 }
      match (s.stationEntry n).alliance with
      | some side => t.credit h points side
      | none => t

/-- R144: a running hold timer counts down by 1, and expires when it reaches 0. -/
def State.countHold (s : State) (e : Fin 32) : State :=
  match (s.claims.get e).timer with
  | none => s
  | some n => if n ≤ 1 then s.expireHold e else s.setClaim e fun c => { c with timer := some (n - 1) }

/-- R145: a tenth event for one element accrues first and counts the hold timer down after. -/
def State.claimTenth (s : State) (h : Half) (e : Fin 32) : State :=
  if s.sharedIn h e then (s.accrue h e).countHold e else s

/-- R144, R145: a tenth event of a clock at the claim unit. That the elements are taken in ascending order, each one's accrual and
expiry before the next one's, is the model's choice: R146 and R147 order flushes and stops, and no rule orders the elements of
one tenth (log entry 33). -/
def State.claimTenths (s : State) (h : Half) : State := allElements.foldl (fun t e => t.claimTenth h e) s

/-! ## Requests (R138 to R142) -/

/-- Check 6 of R138. -/
def ownerAllows (owner : Owner) (alliance : Option Alliance) (action : ClaimAction) : Bool :=
  match owner with
  | .field => false
  | .red => decide (alliance = some .red) && decide (action ≠ .claim)
  | .blue => decide (alliance = some .blue) && decide (action ≠ .claim)
  | .shared => true

/-- R138: the reason of the first failing check after check 1, `none` when all pass. -/
def State.requestFault (s : State) (station : Fin 12) (e : Fin 32) (action : ClaimAction) : Option ClaimReason :=
  if (s.stations.get station).stopLatch then some .stopped
  else if s.elementHalf e ≠ s.stationHalf station then some .half
  else if !(s.entries.get e).enabled || decide ((s.elements.get e).online = .offline) then some .offline
  else if !s.elementPhase e then some .phase
  else if !ownerAllows (s.entries.get e).owner (s.stationEntry station).alliance action then some .owner
  else none

/-- R140: a checked CLAIM. -/
def State.doClaim (s : State) (station : Fin 12) (e : Fin 32) : State × ClaimAnswer :=
  let c := s.claims.get e
  match c.holder with
  | none => (s.grant e station c.waiters, .granted)
  | some n =>
    if n = station then (s, .held)
    else if station ∈ c.waiters then (s, .queued (c.waiters.idxOf station + 1))
    else if 4 ≤ c.waiters.length then (s, .denied .full)
    else (s.setClaim e fun c => { c with waiters := c.waiters ++ [station] }, .queued (c.waiters.length + 1))

/-- R141: a checked RELEASE. -/
def State.doRelease (s : State) (station : Fin 12) (e : Fin 32) : State × ClaimAnswer :=
  let c := s.claims.get e
  if c.holder = some station then (s.promote e, .released .none)
  else if station ∈ c.waiters then
    (s.setClaim e fun c => { c with waiters := c.waiters.filter (· ≠ station) }, .released .none)
  else (s, .denied .notHolder)

/-- R142: a checked ACTUATE. -/
def State.doActuate (s : State) (station : Fin 12) (e : Fin 32) (k : Fin 2) (v : Byte) : State × ClaimAnswer :=
  if (s.entries.get e).owner = .shared ∧ (s.claims.get e).holder ≠ some station then (s, .denied .notHolder)
  else (s.applyOutput e k v, .done)

/-- R138 to R142: an element request of a station. -/
def State.request (s : State) (station : Fin 12) (r : ElementRequest) : State × ClaimAnswer :=
  match decodeIndex 32 r.element with
  | none => (s, .denied .invalid)
  | some e =>
    match r.action, decodeIndex 2 r.output with
    | .actuate, none => (s, .denied .invalid)
    | .actuate, some k =>
      match s.requestFault station e .actuate with
      | some reason => (s, .denied reason)
      | none => s.doActuate station e k r.value
    | .claim, _ =>
      match s.requestFault station e .claim with
      | some reason => (s, .denied reason)
      | none => s.doClaim station e
    | .release, _ =>
      match s.requestFault station e .release with
      | some reason => (s, .denied reason)
      | none => s.doRelease station e

/-! ## Commands and events -/

/-- CLAIM_RESET (R151). -/
def claimResetVerdict (element : Byte) : Verdict :=
  .need (decodeIndex 32 element) .badIndex fun e => .take .ok fun s => s.flush .referee e

/-- HOLD_TIMER_EXPIRY (R144): a running timer of an element whose clock is RUNNING reaches 0. -/
def holdTimerExpiry (e : Fin 32) (s : State) : State :=
  if (s.clocks.get (s.elementHalf e)).state = .running ∧ (s.claims.get e).timer.isSome then s.expireHold e else s

end Sys2Proof.Machine
end

