-- ==== Sys2Proof/Machine/Admission.lean ====
section
/-! DEFINITION. The admission unit (chapters 3 and 4): overrides, station stops, sticky flags, silence, the two conditioning
stages. The service of console frames is in Machine/Console.lean. -/

namespace Sys2Proof.Machine

/-! ## Targets and last-sent values -/

/-- Targets and buttons of a slot are zeroed. -/
def SlotAdmission.zeroTargets (x : SlotAdmission) : SlotAdmission := { x with targets := .fill 0, buttons := 0 }

/-- Last-sent values of a slot are set to 0 (R76). -/
def SlotAdmission.zeroSent (x : SlotAdmission) : SlotAdmission := { x with lastSent := .fill 0 }

/-- R62: at a phase boundary and at the end of the match, targets and buttons of every slot of the half are zeroed. -/
def State.zeroHalf (s : State) (h : Half) : State := s.setSlots fun i x => if s.slotHalf i = h then x.zeroTargets else x

/-- R53, R61: targets and buttons of every slot whose active entry names a station are zeroed. -/
def State.zeroStation (s : State) (n : Fin 12) : State :=
  s.setSlots fun i x => if (s.slotEntry i).station = some n then x.zeroTargets else x

/-- R33: targets, last-sent values and buttons of every slot of the half are zeroed, and its stations' silence timers stop. -/
def State.zeroMatch (s : State) (h : Half) : State :=
  (s.setSlots fun i x => if s.slotHalf i = h then x.zeroTargets.zeroSent else x).setStations fun n x =>
    if s.stationHalf n = h then { x with silence := none } else x

/-- R34, R20: every override of the half returns to AUTO. -/
def State.autoOverrides (s : State) (h : Half) : State :=
  s.setSlots fun i x => if s.slotHalf i = h then { x with override := .auto } else x

/-- R52: a taken START returns every FORCE_ENABLE override of the half to AUTO. -/
def State.endTests (s : State) (h : Half) : State :=
  s.setSlots fun i x => if s.slotHalf i = h ∧ x.override = .forceEnable then { x with override := .auto } else x

/-! ## Channel conditioning -/

/-- R67: the raw value bounded to the channel range. -/
def boundChannel (r : Int) : Int := clampInt (-1000) 1000 r

/-- R68: values within the deadband become 0. -/
def deadband (d : Nat) (r : Int) : Int := if r.natAbs ≤ d then 0 else r

/-- R69: scaled by power limit and phase scale, the quotient by 10000 truncated toward zero. -/
def scaleChannel (power scale : Nat) (r : Int) : Int := (r * power * scale).tdiv 10000

/-- R66: stage 1 for one channel. -/
def condition (power dead scale : Nat) (raw : BitVec 16) : Int :=
  scaleChannel power scale (deadband dead (boundChannel raw.toInt))

/-- R73: stage 2 for one channel of an enabled downlink with drive admitted. -/
def slew (step : Nat) (last target : Int) : Int := last + clampInt (-step) step (target - last)

/-- R72, R73: the six channel values of a downlink. -/
def State.stage2 (s : State) (i : Fin 24) (move : Bool) : Tab 6 Int :=
  let x := s.slots.get i
  if move then .build fun k => slew (s.slotEntry i).slew (x.lastSent.get k) (x.targets.get k) else .fill 0

/-- R50: whether a downlink to the slot carries values and buttons: enable 1 and drive admitted. -/
def State.moves (s : State) (i : Fin 24) : Bool := (s.permission i).enabled && s.driveAdmitted i

/-- R72, R74: the buttons of a downlink. -/
def State.downlinkButtons (s : State) (i : Fin 24) : Byte := if s.moves i then (s.slots.get i).buttons else 0

/-- R58: the drive part of a CONTROL frame for a found slot. -/
def State.drive (s : State) (station : Fin 12) (i : Fin 24) (f : ControlFrame) : State :=
  let entry := s.slotEntry i
  if (s.stations.get station).stopLatch then s.setSlot i fun x => { x with discarded := bump x.discarded }
  else
    let store (targets : Tab 6 Int) (buttons : Byte) : State :=
      (s.setSlot i fun x => { x with targets := targets, buttons := buttons, admitted := bump x.admitted }).setStation station
        fun x => { x with silence := some (s.stationEntry station).hold }
    if s.testMode i then store (.build fun k => condition entry.power entry.deadband 100 (f.channels.get k)) f.buttons
    else
      match s.profileInForce (s.slotHalf i) with
      | some p =>
        if p.driveAdmit then
          store (.build fun k => condition entry.power entry.deadband p.scale (f.channels.get k)) (f.buttons &&& p.buttons)
        else store (.fill 0) 0
      | none => store (.fill 0) 0

/-! ## Stops, silence, flags -/

/-- R53: the start of a break latches the station's stop. -/
def State.latchStation (s : State) (n : Fin 12) : State :=
  if (s.stations.get n).stopLatch then s
  else
    ((((s.setStation n fun x => { x with stopLatch := true, silence := none }).report (.stationStop n true)).zeroStation n).dropClaims n)

/-- STATION_RESUME (R54). -/
def stationResumeVerdict (line : Byte) (s : State) : Verdict :=
  .need (decodeIndex 12 line) .badIndex fun n =>
    .require (!(s.console.get n).breakPresent) .stillAsserted <| .take .ok fun t =>
      if (t.stations.get n).stopLatch then (t.setStation n fun x => { x with stopLatch := false }).report (.stationStop n false)
      else t

/-- OVERRIDE (R51). -/
def overrideVerdict (slot value : Byte) (s : State) : Verdict :=
  .need (decodeIndex 24 slot) .badIndex fun i => .need (decodeOverride value) .badValue fun v =>
    .require (decide (v ≠ .forceEnable) || !(s.clocks.get (s.slotHalf i)).state.started) .wrongState <|
      .take .ok fun t => t.setSlot i fun x => { x with override := v }

/-- LINK_FLAG_CLEAR (R55). -/
def linkFlagClearVerdict (slot : Byte) : Verdict :=
  .need (decodeIndex 24 slot) .badIndex fun i => .take .ok fun t => t.setSlot i fun x => { x with stickyLost := false }

/-- SILENCE_TIMER_EXPIRY (R61): a running silence timer reaches 0. -/
def silenceTimerExpiry (n : Fin 12) (s : State) : State :=
  if (s.stations.get n).silence.isSome then (s.setStation n fun x => { x with silence := none }).zeroStation n else s

end Sys2Proof.Machine
end

