-- ==== Sys2Proof/Machine/Console.lean ====
section
/-! DEFINITION. Console lines (chapter 5) and the service of their frames (R56 to R60): characters, gaps, breaks, the frame
assembler, CONTROL frames and PINGs. -/

namespace Sys2Proof.Machine

/-! ## The frame assembler (R86 to R89) -/

/-- A counter of a line is changed. -/
def ConsoleLine.count (l : ConsoleLine) (f : LineCounters → LineCounters) : ConsoleLine := { l with counters := f l.counters }

/-- The line's assembler is set. -/
def ConsoleLine.assemble (l : ConsoleLine) (a : Assembler) : ConsoleLine := { l with assembler := a }

/-- R89 test 5 and chapter 11: the contents of a CONTROL frame from its 19 body bytes; `none` for a request-present field other
than N or Y, or, when it is Y, an action other than CLAIM, RELEASE or ACTUATE. -/
def parseControl (body : List Byte) : Option ControlFrame :=
  let at_ (n : Nat) : Byte := body.getD n 0
  let frame (request : Option ElementRequest) : ControlFrame :=
    { selector := at_ 0, channels := .build fun k => word16 (at_ (1 + 2 * k.val)) (at_ (2 + 2 * k.val)), buttons := at_ 13,
      request := request }
  match decodeYN (at_ 14), decodeClaimAction (at_ 16) with
  | some false, _ => some (frame none)
  | some true, some action => some (frame (some { element := at_ 15, action := action, output := at_ 17, value := at_ 18 }))
  | _, _ => none

/-- R89: the judgement of a complete frame, in the order of its tests; the line returns to HUNTING or enters WAITING. -/
def ConsoleLine.judge (l : ConsoleLine) (bytes : List Byte) (damaged : Bool) : ConsoleLine :=
  let hunting := l.assemble .hunting
  let held (f : HeldFrame) : ConsoleLine := (l.assemble (.waiting f)).count fun c => { c with completed := bump c.completed }
  let formatError := hunting.count fun c => { c with formatErrors := bump c.formatErrors }
  if damaged || sum8 bytes ≠ 0 then hunting.count fun c => { c with checkFailures := bump c.checkFailures }
  else if bytes.getD 2 0 = 0x01 then
    if bytes.getD 1 0 = 20 then
      match parseControl (bytes.drop 3) with
      | some f => held (.control f)
      | none => formatError
    else formatError
  else if bytes.getD 2 0 = 0x02 then
    if bytes.getD 1 0 = 1 then held .ping else formatError
  else hunting.count fun c => { c with unknownKinds := bump c.unknownKinds }

/-- R86: an entry examined in HUNTING. -/
def ConsoleLine.hunt (l : ConsoleLine) (e : FifoEntry) : ConsoleLine :=
  if e.byte = 0x7E ∧ e.framing = false then l.assemble (.assembling [0x7E] false) else l.assemble .hunting

/-- R87, R89: a byte taken into the frame in assembly; the second byte is the length. -/
def ConsoleLine.takeByte (l : ConsoleLine) (bytes : List Byte) (damaged : Bool) : ConsoleLine :=
  if bytes.length = 2 then
    if 1 ≤ (bytes.getD 1 0).toNat ∧ (bytes.getD 1 0).toNat ≤ 32 then l.assemble (.assembling bytes damaged)
    else (l.assemble .hunting).count fun c => { c with formatErrors := bump c.formatErrors }
  else if bytes.length = (bytes.getD 1 0).toNat + 3 then l.judge bytes damaged
  else l.assemble (.assembling bytes damaged)

/-- R88: a frame abandoned for an idle gap. -/
def ConsoleLine.abandonGap (l : ConsoleLine) : ConsoleLine :=
  (l.assemble .hunting).count fun c => { c with gapTimeouts := bump c.gapTimeouts }

/-- R86, R88: the assembler takes an entry. -/
def ConsoleLine.absorb (l : ConsoleLine) (e : FifoEntry) : ConsoleLine :=
  match l.assembler with
  | .waiting _ => l
  | .hunting => l.hunt e
  | .assembling bytes damaged =>
    if e.bounds.brk then (l.assemble .hunting).hunt e
    else if e.bounds.gap then l.abandonGap.hunt e
    else l.takeByte (bytes ++ [e.byte]) (damaged || e.bounds.loss || e.framing)

/-- Whether the assembler holds a completed frame. -/
def ConsoleLine.isWaiting (l : ConsoleLine) : Bool :=
  match l.assembler with
  | .waiting _ => true
  | _ => false

/-- R86, R90: the assembler takes entries from the head of the FIFO until it is WAITING or the FIFO is empty. -/
def drainEntries : List FifoEntry → ConsoleLine → ConsoleLine
  | [], l => { l with fifo := [] }
  | e :: rest, l => if l.isWaiting then { l with fifo := e :: rest } else drainEntries rest (l.absorb e)

/-- The line's assembler takes what its FIFO holds. -/
def ConsoleLine.drain (l : ConsoleLine) : ConsoleLine := drainEntries l.fifo l

/-! ## Characters and boundaries (R82 to R85) -/

/-- R83: an entry joins the FIFO with the pending boundaries, or the byte is lost. -/
def ConsoleLine.enter (l : ConsoleLine) (byte : Byte) (framing : Bool) : ConsoleLine :=
  if l.fifo.length < 16 then
    ({ l with fifo := l.fifo ++ [⟨byte, framing, l.pending⟩], pending := .empty } : ConsoleLine).drain
  else
    { l with pending := { l.pending with loss := true }, counters := { l.counters with overruns := bump l.counters.overruns } }

/-- CONSOLE_CHARACTER_RECEIVED (R82): a line in break receives no character; the start bit ends the idle period (R84). -/
def ConsoleLine.character (l : ConsoleLine) (byte : Byte) (framing : Bool) : ConsoleLine :=
  if l.breakPresent then l
  else
    let counted := if framing then l.count fun c => { c with framingErrors := bump c.framingErrors } else l
    ({ counted with gapRaised := false } : ConsoleLine).enter byte framing

/-- R83: whether a boundary reaches the assembler at once. -/
def ConsoleLine.atOnce (l : ConsoleLine) : Bool := l.fifo.isEmpty && !l.isWaiting

/-- R88: whether a frame is in assembly. -/
def ConsoleLine.isAssembling (l : ConsoleLine) : Bool :=
  match l.assembler with
  | .assembling _ _ => true
  | _ => false

/-- GAP (R84): once for an idle period; without effect while WAITING with an empty FIFO. -/
def ConsoleLine.gap (l : ConsoleLine) : ConsoleLine :=
  if l.breakPresent || l.gapRaised then l
  else
    let raised : ConsoleLine := { l with gapRaised := true }
    if raised.atOnce then (if raised.isAssembling then raised.abandonGap else raised)
    else if raised.fifo.isEmpty then raised
    else { raised with pending := { raised.pending with gap := true } }

/-- R85, R88: the BREAK boundary reaches the assembler at once, abandoning a frame without a count, or waits. -/
def ConsoleLine.breakBoundary (l : ConsoleLine) : ConsoleLine :=
  if l.atOnce then (if l.isAssembling then l.assemble .hunting else l) else { l with pending := { l.pending with brk := true } }

/-- R85: the start of a break at the line itself. -/
def ConsoleLine.startBreak (l : ConsoleLine) : ConsoleLine :=
  (({ l with breakPresent := true } : ConsoleLine).count fun c => { c with breaks := bump c.breaks }).breakBoundary

/-- CONSOLE_CHARACTER_RECEIVED (R82). -/
def consoleCharacterReceived (n : Fin 12) (byte : Byte) (framing : Bool) (s : State) : State :=
  s.setConsole n (·.character byte framing)

/-- GAP (R84). -/
def gapEvent (n : Fin 12) (s : State) : State := s.setConsole n (·.gap)

/-- BREAK_START (R85): a break begins only where none is present; its start latches the station's stop (R53). -/
def breakStart (n : Fin 12) (s : State) : State :=
  if (s.console.get n).breakPresent then s else (s.setConsole n (·.startBreak)).latchStation n

/-- BREAK_END (R85): break-present is cleared and a new idle period begins (R84). -/
def breakEnd (n : Fin 12) (s : State) : State :=
  s.setConsole n fun l => if l.breakPresent then { l with breakPresent := false, gapRaised := false } else l

/-- R92: the frame in transmission leaves the queue when its transmission ends, and the next begins at once. -/
def ConsoleLine.sent (l : ConsoleLine) : ConsoleLine :=
  { l with queue := l.queue.tail
           wire := match l.queue.tail with
             | f :: _ => f.bytes
             | [] => [] }

/-- CONSOLE_FRAME_SENT (R92). -/
def consoleFrameSent (n : Fin 12) (s : State) : State := s.setConsole n (·.sent)

/-! ## Service of completed frames (R56 to R60) -/

/-- R56: the lines in the order the admission unit looks at them, from the one after its round-robin position. -/
def State.serviceOrder (s : State) : List (Fin 12) := (List.finRange 12).map fun k => s.served + k + 1

/-- R56: the line whose frame is taken next. -/
def State.nextLine (s : State) : Option (Fin 12) := s.serviceOrder.find? fun n => (s.console.get n).isWaiting

/-- R56, R90: a line's frame is taken: the round-robin position moves to it, and its assembler is freed and goes on with the
FIFO. -/
def State.takeFrame (s : State) (n : Fin 12) : State :=
  { s with served := n, console := s.console.modify n fun l => (l.assemble .hunting).drain }

/-- R57 to R59: a CONTROL frame of a line. -/
def State.control (s : State) (n : Fin 12) (f : ControlFrame) : State :=
  if (s.stationEntry n).present then
    let driven :=
      match s.findSlot n f.selector with
      | some i => s.drive n i f
      | none => s.setStation n fun x => { x with noSlot := bump x.noSlot }
    match f.request with
    | some r =>
      let (t, answer) := driven.request n r
      t.tell n r.element answer
    | none => driven
  else s.setStation n fun x => { x with unassigned := bump x.unassigned }

/-- R60: what a STATUS frame says of one robot selector. -/
def State.selectorStatus (s : State) (n : Fin 12) (k : Fin 2) : Option SelectorStatus :=
  (s.findSlot n (num8 k)).map fun i =>
    { slot := i, permission := s.permission i, link := (s.links.get i).state, stickyLost := (s.slots.get i).stickyLost }

/-- R60: the STATUS frame of a station. -/
def State.statusFrame (s : State) (n : Fin 12) : ConsoleOut :=
  .status (s.stationEntry n).present (s.stations.get n).stopLatch (s.console.get n).breakPresent
    (s.stations.get n).silence.isSome (.build fun k => s.selectorStatus n k)

/-- CONTROL_FRAME (R56, R57): the admission unit takes the next waiting frame when it is a CONTROL frame. -/
def controlFrame (s : State) : State :=
  match s.nextLine with
  | none => s
  | some n =>
    match (s.console.get n).assembler with
    | .waiting (.control f) => (s.takeFrame n).control n f
    | _ => s

/-- PING (R56, R60): the admission unit takes the next waiting frame when it is a PING. -/
def pingEvent (s : State) : State :=
  match s.nextLine with
  | none => s
  | some n =>
    match (s.console.get n).assembler with
    | .waiting .ping => (s.takeFrame n).setConsole n (·.pushReply (s.statusFrame n))
    | _ => s

end Sys2Proof.Machine
end

