-- ==== Sys2Proof/Machine/Scoring.lean ====
section
/-! DEFINITION. The scoring unit (chapter 9): poll readings, capture, points, scores, CAPTURE_CLEAR and SCORE_ADJUST. -/

namespace Sys2Proof.Machine

/-- R21, R33, R34: the scores of a clock and the counts and captures of its half's sensors are cleared; baselines and levels
are kept. -/
def State.clearScoring (s : State) (h : Half) : State :=
  (s.setScores h fun _ => .zero).setSensors fun e _ x =>
    if s.elementHalf e = h then { x with count := 0, captured := false, captureTime := 0 } else x

/-- R156: the first event of a sensor in a started match records the elapsed tenths. -/
def Sensor.capture (x : Sensor) (c : Clock) : Sensor :=
  if c.state.started && !x.captured then { x with captured := true, captureTime := c.elapsed } else x

/-- R158: the alliance credited with the points of an element. -/
def State.creditSide (s : State) (e : Fin 32) : Option Alliance :=
  match (s.entries.get e).owner with
  | .red => some .red
  | .blue => some .blue
  | .field => (s.entries.get e).credit
  | .shared => (s.claims.get e).holder.bind fun n => (s.stationEntry n).alliance

/-- R158: points for `n` events of a sensor. -/
def State.creditEvents (s : State) (e : Fin 32) (k : Fin 2) (n : Nat) : State :=
  let h := s.elementHalf e
  if (s.clocks.get h).state.started then
    match s.creditSide e with
    | some side => s.credit h (n * ((s.entries.get e).sensors.get k).points) side
    | none => s
  else s

/-- R161: the sensor's event is made known with its present level and capture. -/
def State.tellEvent (s : State) (e : Fin 32) (k : Fin 2) (n : Nat) : State :=
  let x := (s.sensors.get e).get k
  s.reportEvent e k n x.level x.captured x.captureTime

/-- R154: the new events of a COUNT sensor, none when the answer re-baselines. -/
def Sensor.newEvents (x : Sensor) (restarted : Bool) (c : BitVec 4) : Nat :=
  if restarted then 0
  else
    match x.baseline with
    | none => 0
    | some b => (c - b).toNat

/-- R154, R156, R158, R161: a COUNT sensor takes a reading. -/
def State.countReading (s : State) (e : Fin 32) (k : Fin 2) (level : Level) (c : BitVec 4) (restarted : Bool) : State :=
  let n := ((s.sensors.get e).get k).newEvents restarted c
  let clock := s.clocks.get (s.elementHalf e)
  let based := s.setSensor e k fun x => { x with baseline := some c, count := addSat x.count n, level := level }
  if n = 0 then based
  else ((based.setSensor e k (·.capture clock)).creditEvents e k n).tellEvent e k n

/-- R155, R156, R161: a LEVEL sensor takes a reading. -/
def State.levelReading (s : State) (e : Fin 32) (k : Fin 2) (level : Level) : State :=
  let last := ((s.sensors.get e).get k).level
  let clock := s.clocks.get (s.elementHalf e)
  if last = .unknown ∨ last = level then s.setSensor e k fun x => { x with level := level }
  else (s.setSensor e k fun x => ({ x with level := level, count := bump x.count } : Sensor).capture clock).tellEvent e k 1

/-- R153: one sensor takes its part of a good poll answer by its mode. -/
def State.reading (s : State) (e : Fin 32) (k : Fin 2) (r : PollReading) : State :=
  match ((s.entries.get e).sensors.get k).mode with
  | .off => s
  | .count => s.countReading e k (r.levels.get k) (r.counters.get k) r.restarted
  | .level => s.levelReading e k (r.levels.get k)

/-- R153: a good poll answer, sensor 0 first. -/
def State.readings (s : State) (e : Fin 32) (r : PollReading) : State := (s.reading e 0 r).reading e 1 r

/-! ## Commands -/

/-- CAPTURE_CLEAR (R157). -/
def captureClearVerdict (element sensor : Byte) : Verdict :=
  .need (decodeIndex 32 element) .badIndex fun e => .need (decodeIndex 2 sensor) .badValue fun k =>
    .take .ok fun s => s.setSensor e k fun x => { x with captured := false, captureTime := 0 }

/-- R159, R160: a score with a signed delta added, kept within 0-65535. -/
def adjustScore (score : Nat) (delta : Int) : Nat := (clampInt 0 65535 (score + delta)).toNat

/-- R160: the named score with a delta added. -/
def Scores.adjust (x : Scores) (delta : Int) : Alliance → Scores
  | .red => { x with red := adjustScore x.red delta }
  | .blue => { x with blue := adjustScore x.blue delta }

/-- SCORE_ADJUST (R160). -/
def scoreAdjustVerdict (clock alliance : Byte) (delta : BitVec 16) (s : State) : Verdict :=
  .need (decodeHalf clock) .badValue fun h => .need (decodeAlliance alliance) .badValue fun side =>
    .require (decide (h = .a) || s.split) .wrongState <| .require (decide ((s.clocks.get h).state ≠ .idle)) .wrongState <|
      let taken := clampInt (-1000) 1000 delta.toInt
      .take (codeOf (decide (taken ≠ delta.toInt))) fun t => t.setScores h (·.adjust taken side)

end Sys2Proof.Machine
end

