-- ==== Sys2Proof/Machine/Tables.lean ====
section
/-! DEFINITION. The match tables (chapter 1): the checks and clamping of pending-bank writes, the turnover lock's use, turnover. -/

namespace Sys2Proof.Machine

/-! ## Records checked and clamped (R9, R12): the stored item and whether a number was clamped -/

/-- Check 4 of R9 for a MATCH_HEADER record; bits 12-15 of the station mask are ignored (R180). -/
def headerItem (r : HeaderRecord) : Option Header :=
  (decodeYN r.autoTurnover).map fun auto =>
    { number := r.number, slots := r.slots, stations := r.stations.extractLsb' 0 12, autoTurnover := auto }

/-- Check 4 of R9 for a SLOT record, with its numbers clamped (R12). -/
def slotItem (r : SlotRecord) : Option (SlotEntry × Bool) :=
  match decodeIndex 12 r.station, decodeIndex 2 r.selector with
  | some n, some k =>
    let e : SlotEntry :=
      { kit := r.kit, station := some n, selector := k, power := clampNat 0 100 r.power.toNat,
        deadband := clampNat 0 100 r.deadband.toNat, slew := clampNat 1 2000 r.slew.toNat,
        timeout := clampNat 100 2000 r.timeout.toNat }
    some (e, decide (e.power ≠ r.power.toNat ∨ e.deadband ≠ r.deadband.toNat ∨ e.slew ≠ r.slew.toNat
      ∨ e.timeout ≠ r.timeout.toNat))
  | _, _ => none

/-- Check 4 of R9 for a STATION record, with its numbers clamped (R12): a team number of 0 is stored as 1. -/
def stationItem (r : StationRecord) : Option (StationEntry × Bool) :=
  (decodeAlliance r.alliance).map fun side =>
    let e : StationEntry :=
      { team := clampNat 1 65535 r.team.toNat, alliance := some side, hold := clampNat 100 2000 r.hold.toNat }
    (e, decide (e.team ≠ r.team.toNat ∨ e.hold ≠ r.hold.toNat))

/-- Check 4 of R9 for one entry of a SCHEDULE record, with its duration clamped (R12). -/
def phaseItem (r : PhaseRecord) : Option PhaseEntry :=
  match decodePhaseKind r.kind, decodeIndex 4 r.profile with
  | some kind, some p => some { kind := kind, duration := clampNat 0 9999 r.duration.toNat, profile := p }
  | _, _ => none

/-- Check 4 of R9 for a SCHEDULE record: every entry must be in its code tables. -/
def scheduleItem (r : Tab 8 PhaseRecord) : Option (Tab 8 PhaseEntry × Bool) :=
  if (List.finRange 8).all fun j => (phaseItem (r.get j)).isSome then
    some (.build fun j => (phaseItem (r.get j)).getD .empty,
      (List.finRange 8).any fun j => decide (clampNat 0 9999 (r.get j).duration.toNat ≠ (r.get j).duration.toNat))
  else none

/-- Check 4 of R9 for a PROFILE record, with its phase scale clamped (R12). -/
def profileItem (r : ProfileRecord) : Option (Profile × Bool) :=
  match decodeYN r.robotEnable, decodeYN r.driveAdmit, decodeYN r.elementAdmit with
  | some enable, some drive, some elements =>
    some ({ robotEnable := enable, driveAdmit := drive, buttons := r.buttons, scale := clampNat 0 100 r.scale.toNat,
            elementAdmit := elements }, decide (clampNat 0 100 r.scale.toNat ≠ r.scale.toNat))
  | _, _, _ => none

/-! ## Uniqueness among valid pending slot entries (R11) -/

/-- Check 6 of R9: another valid slot entry with nonzero kit ID in the same bank names the same station and selector. -/
def State.stationTaken (s : State) (h : Half) (i : Fin 24) (e : SlotEntry) : Bool :=
  e.kit != 0 && (List.finRange 24).any fun j =>
    let x := (s.tables.get h).pending.slots.get j
    decide (j ≠ i) && (s.tables.get h).valid.slots.get j && x.kit != 0 && x.station == e.station && x.selector == e.selector

/-- Whether a valid pending slot entry of a clock, other than the one named, holds a kit ID. -/
def State.kitPending (s : State) (h : Half) (i : Option (Fin 24)) (kit : BitVec 32) : Bool :=
  (List.finRange 24).any fun j =>
    decide (some j ≠ i) && (s.tables.get h).valid.slots.get j && ((s.tables.get h).pending.slots.get j).kit == kit

/-- Check 7 of R9: the nonzero kit ID is that of another valid slot entry in either pending bank. -/
def State.kitTaken (s : State) (h : Half) (i : Fin 24) (e : SlotEntry) : Bool :=
  e.kit != 0 && (s.kitPending h (some i) e.kit || s.kitPending h.other none e.kit)

/-! ## Turnover (R17 to R22) -/

/-- R17 step 2: the stations of the new active bank. -/
def State.newStations (s : State) (h : Half) : Tab 12 StationEntry :=
  let m := s.tables.get h
  m.active.stations.update fun n old =>
    if s.stationHalf n = h then
      if m.pending.header.stations.getLsb n && m.valid.stations.get n then m.pending.stations.get n else .empty
    else old

/-- Whether a slot entry's station is present in a table of stations. -/
def SlotEntry.stationPresent (e : SlotEntry) (stations : Tab 12 StationEntry) : Bool :=
  match e.station with
  | some n => (stations.get n).present
  | none => false

/-- R17 step 3: the slots copied, before the test for kit ID conflicts. -/
def State.copiedSlots (s : State) (h : Half) : Tab 24 SlotEntry :=
  let m := s.tables.get h
  m.active.slots.update fun i old =>
    if s.slotHalf i = h then
      if m.pending.header.slots.getLsb i && m.valid.slots.get i && (m.pending.slots.get i).kit != 0
          && (m.pending.slots.get i).stationPresent (s.newStations h)
      then m.pending.slots.get i else .empty
    else old

/-- R17 step 4: the copied slots whose nonzero kit ID stands in the other clock's active bank. -/
def State.conflicts (s : State) (h : Half) : BitVec 24 :=
  BitVec.ofFnLE fun i =>
    decide (s.slotHalf i = h) && ((s.copiedSlots h).get i).kit != 0 &&
      (List.finRange 24).any fun j => ((s.active h.other).slots.get j).kit == ((s.copiedSlots h).get i).kit

/-- R17: the new active bank. -/
def State.newActive (s : State) (h : Half) : Bank :=
  let p := (s.tables.get h).pending
  { header := p.header, schedule := p.schedule, profiles := p.profiles, stations := s.newStations h,
    slots := (s.copiedSlots h).update fun i x => if (s.conflicts h).getLsb i then .empty else x }

/-- R18: the slots of the expected mask that are vacant in the new active bank. -/
def vacatedSlots (b : Bank) : BitVec 24 := BitVec.ofFnLE fun i => b.header.slots.getLsb i && (b.slots.get i).kit == 0

/-- R19, R34, R114: every link of a half is dropped to SEARCHING or VACANT by its slot's kit ID in the active bank; its timer
stops and its join answer leaves the queue. -/
def State.dropLinks (s : State) (h : Half) : State :=
  (s.setLinks fun i x =>
    if s.slotHalf i = h then
      { x with state := if ((s.active h).slots.get i).kit = 0 then .vacant else .searching, liveness := none }
    else x).setRadio fun r => { r with answers := r.answers.filter fun a => s.slotHalf a.slot ≠ h }

/-- R20: station stops of the half are released but where the console line is in break. -/
def State.releaseStations (s : State) (h : Half) : State :=
  s.setStations fun n x => if s.stationHalf n = h then { x with stopLatch := x.stopLatch && (s.console.get n).breakPresent } else x

/-- R22, R33: a clock enters ARMED at phase 0 with the hold causes of R26. -/
def State.arm (s : State) (h : Half) : State :=
  s.setClock h fun c =>
    { c with state := .armed, phase := 0, remaining := ((s.active h).schedule.get 0).duration, elapsed := 0, tenthPos := 0,
             commandHold := false, stopHold := false, lineHold := s.lineHold h }

/-- R17 to R22: turnover, one event. -/
def State.turnover (s : State) (h : Half) : State :=
  let bank := s.newActive h
  let fromRest := decide ((s.clocks.get h).state ≠ .armed)
  let installed := s.setTables h fun m => { m with active := bank, valid := .clear }
  let cleared := ((((installed.dropLinks h).autoOverrides h).zeroMatch h).releaseStations h).flushSilent h |>.clearScoring h
  let reported := (cleared.arm h).report (.turnover h bank.header.number (vacatedSlots bank) (s.conflicts h))
  if fromRest then reported.reportClock h else reported

/-- R15: a satisfied lock with auto-turnover Y turns over a clock that is IDLE or ENDED. -/
def State.autoTurnover (s : State) (h : Half) : State :=
  if s.lock h && (s.tables.get h).pending.header.autoTurnover
      && decide ((s.clocks.get h).state = .idle ∨ (s.clocks.get h).state = .ended)
  then s.turnover h else s

/-- TURNOVER (R16). -/
def turnoverVerdict (clock : Byte) (s : State) : Verdict :=
  s.clockOperand clock fun h =>
    .require (!(s.clocks.get h).state.started) .wrongState <| .require (s.lockCore h) .notReady <|
      .take .ok fun t => t.turnover h

/-! ## Writes (R8, R9) -/

/-- R8: a header write clears every valid flag of the clock, stores the header and sets its flag. -/
def State.storeHeader (s : State) (h : Half) (x : Header) : State :=
  s.setTables h fun m => { m with pending := { m.pending with header := x }, valid := { Valid.clear with header := true } }

/-- R8: a slot entry is stored and made valid. -/
def State.storeSlot (s : State) (h : Half) (i : Fin 24) (x : SlotEntry) : State :=
  s.setTables h fun m =>
    { m with pending := { m.pending with slots := m.pending.slots.set i x }, valid := { m.valid with slots := m.valid.slots.set i true } }

/-- R8: a station entry is stored and made valid. -/
def State.storeStation (s : State) (h : Half) (n : Fin 12) (x : StationEntry) : State :=
  s.setTables h fun m =>
    { m with pending := { m.pending with stations := m.pending.stations.set n x }
             valid := { m.valid with stations := m.valid.stations.set n true } }

/-- R8: the phase schedule is stored and made valid. -/
def State.storeSchedule (s : State) (h : Half) (x : Tab 8 PhaseEntry) : State :=
  s.setTables h fun m => { m with pending := { m.pending with schedule := x }, valid := { m.valid with schedule := true } }

/-- R8: a profile is stored and made valid. -/
def State.storeProfile (s : State) (h : Half) (p : Fin 4) (x : Profile) : State :=
  s.setTables h fun m =>
    { m with pending := { m.pending with profiles := m.pending.profiles.set p x }
             valid := { m.valid with profiles := m.valid.profiles.set p true } }

/-- WRITE_MATCH_HEADER (R8, R9, R15). -/
def writeHeaderVerdict (clock index : Byte) (r : HeaderRecord) (s : State) : Verdict :=
  s.clockOperand clock fun h => .require (index == 0) .badIndex <| .need (headerItem r) .badValue fun x =>
    .require (x.slots &&& ~~~(s.slotMask h) == 0 && x.stations &&& ~~~(s.stationMask h) == 0) .badValue <|
      .take .ok fun t => (t.storeHeader h x).autoTurnover h

/-- WRITE_SLOT (R8 to R12, R15). -/
def writeSlotVerdict (clock index : Byte) (r : SlotRecord) (s : State) : Verdict :=
  s.clockOperand clock fun h => .need (decodeIndex 24 index) .badIndex fun i =>
    .require (decide (s.slotHalf i = h)) .badIndex <| .need (slotItem r) .badValue fun x =>
    .require (x.1.station.all fun n => decide (s.stationHalf n = h)) .badValue <|
    .require (!s.stationTaken h i x.1) .badValue <| .require (!s.kitTaken h i x.1) .duplicateKit <|
      .take (codeOf x.2) fun t => (t.storeSlot h i x.1).autoTurnover h

/-- WRITE_STATION (R8, R9, R12, R15). -/
def writeStationVerdict (clock index : Byte) (r : StationRecord) (s : State) : Verdict :=
  s.clockOperand clock fun h => .need (decodeIndex 12 index) .badIndex fun n =>
    .require (decide (s.stationHalf n = h)) .badIndex <| .need (stationItem r) .badValue fun x =>
      .take (codeOf x.2) fun t => (t.storeStation h n x.1).autoTurnover h

/-- WRITE_SCHEDULE (R5, R8, R9, R12, R15). -/
def writeScheduleVerdict (clock index : Byte) (r : Tab 8 PhaseRecord) (s : State) : Verdict :=
  s.clockOperand clock fun h => .require (index == 0) .badIndex <| .need (scheduleItem r) .badValue fun x =>
    .require (decide ((x.1.get 0).kind ≠ .none)) .badValue <|
      .take (codeOf x.2) fun t => (t.storeSchedule h x.1).autoTurnover h

/-- WRITE_PROFILE (R8, R9, R12, R15). -/
def writeProfileVerdict (clock index : Byte) (r : ProfileRecord) (s : State) : Verdict :=
  s.clockOperand clock fun h => .need (decodeIndex 4 index) .badIndex fun p => .need (profileItem r) .badValue fun x =>
    .take (codeOf x.2) fun t => (t.storeProfile h p x.1).autoTurnover h

end Sys2Proof.Machine
end

