-- ==== Sys2Proof/Machine/Clocks.lean ====
section
/-! DEFINITION. The match clocks and the arena line unit (chapter 2): clock commands, phases, tenths, split mode, arena lines,
field stop. -/

namespace Sys2Proof.Machine

/-! ## Phases (R28, R36) -/

/-- R36: the first entry of nonzero duration at or after an index, looking at no more than `fuel` entries and stopping at an
entry of kind NONE or at the end of the eight. -/
def firstPhase (schedule : Tab 8 PhaseEntry) : Nat → Nat → Option (Fin 8)
  | 0, _ => none
  | fuel + 1, from_ =>
    if h : from_ < 8 then
      let e := schedule.get ⟨from_, h⟩
      if e.kind = .none then none else if e.duration = 0 then firstPhase schedule fuel (from_ + 1) else some ⟨from_, h⟩
    else none

/-- R36: the entry to ENDED, by any cause: the report, the announcements to the admission and claim units, then R15. -/
def State.endMatch (s : State) (h : Half) : State :=
  let ended := s.setClock h fun c =>
    { c with state := .ended, remaining := 0, commandHold := false, stopHold := false, lineHold := s.lineHold h }
  ((((ended.reportClock h).zeroHalf h).flushSilent h)).autoTurnover h

/-- R36: a phase is entered, reported, and announced as a boundary to the admission and claim units (R62, R148). -/
def State.enterPhase (s : State) (h : Half) (j : Fin 8) : State :=
  let e := (s.active h).schedule.get j
  let entered := (s.setClock h fun c => { c with phase := j, remaining := e.duration }).report (.phase h j e.kind)
  (entered.zeroHalf h).flushPhase h e.kind ((s.active h).profiles.get e.profile)

/-- R36: the phase in force ends: the next phase is entered, or the match ends. -/
def State.endPhase (s : State) (h : Half) : State :=
  match firstPhase (s.active h).schedule 8 ((s.clocks.get h).phase.val + 1) with
  | some j => s.enterPhase h j
  | none => s.endMatch h

/-- R28: the effect of a taken START, by command or by arena line. -/
def State.startMatch (s : State) (h : Half) : State :=
  let zeroed := (s.setClock h fun c => { c with elapsed := 0, tenthPos := 0 }).endTests h
  match firstPhase (s.active h).schedule 8 0 with
  | some j =>
    let entered := zeroed.enterPhase h j
    (entered.setClock h fun c => { c with state := if c.lineHold then .paused else .running }).reportClock h
  | none => zeroed.endMatch h

/-! ## Hold causes (R25, R26) -/

/-- A change of hold causes: the clock settles in RUNNING or PAUSED when it is started, and a CLOCK_STATE report is queued when
its state or its hold causes changed. -/
def State.changeHolds (s : State) (h : Half) (f : Clock → Clock) : State :=
  let before := s.clocks.get h
  let after := (f before).settle
  let t := s.setClock h fun _ => after
  if after.state = before.state ∧ after.commandHold = before.commandHold ∧ after.lineHold = before.lineHold
      ∧ after.stopHold = before.stopHold
  then t else t.reportClock h

/-- R42: the line hold of a clock is derived from the engaged lines again. -/
def State.deriveHold (s : State) (h : Half) : State := s.changeHolds h fun c => { c with lineHold := s.lineHold h }

/-- R42: the line holds of both clocks. That clock A's CLOCK_STATE report goes before clock B's is the model's choice: R42 gives
no order (log entry 32). -/
def State.deriveHolds (s : State) : State := (s.deriveHold .a).deriveHold .b

/-! ## Field stop (R44, R45) -/

/-- R44: the field stop latch of a half is set. A set event that finds the latch already set changes nothing. -/
def State.latchStop (s : State) (h : Half) (source : StopSource) : State :=
  if (s.clocks.get h).fieldStop then s
  else
    let latched := (s.setClock h fun c => { c with fieldStop := true }).report (.stop h source true)
    let held :=
      if (s.clocks.get h).state.started then latched.changeHolds h fun c => { c with stopHold := true, commandHold := true }
      else latched
    held.flushStopped h

/-- FIELD_STOP (R44). -/
def fieldStopVerdict (half : Byte) (s : State) : Verdict :=
  s.clockOperand half fun h => .take .ok fun t => t.latchStop h .command

/-- STOP_CLEAR (R45). -/
def stopClearVerdict (half : Byte) (s : State) : Verdict :=
  s.clockOperand half fun h => .require (!s.engagedWith .stop h) .stillAsserted <| .take .ok fun t =>
    if (t.clocks.get h).fieldStop then
      ((t.setClock h fun c => { c with fieldStop := false }).report (.stop h .command false)).changeHolds h
        fun c => { c with stopHold := false }
    else t

/-! ## Clock commands (R28 to R34) -/

/-- START (R28). -/
def startVerdict (clock : Byte) (s : State) : Verdict :=
  s.clockOperand clock fun h => .require (decide ((s.clocks.get h).state = .armed)) .wrongState <|
    .require (!(s.clocks.get h).fieldStop) .stillAsserted <| .take .ok fun t => t.startMatch h

/-- PAUSE (R29). -/
def pauseVerdict (clock : Byte) (s : State) : Verdict :=
  s.clockOperand clock fun h => .require (s.clocks.get h).state.started .wrongState <|
    .take .ok fun t => t.changeHolds h fun c => { c with commandHold := true }

/-- RESUME (R30). -/
def resumeVerdict (clock : Byte) (s : State) : Verdict :=
  s.clockOperand clock fun h => .require (s.clocks.get h).state.started .wrongState <|
    .require (decide ((s.clocks.get h).state = .running) || !(s.clocks.get h).fieldStop) .stillAsserted <|
      .take .ok fun t =>
        if (s.clocks.get h).state = .running then t else t.changeHolds h fun c => { c with commandHold := false }

/-- ADVANCE (R31). -/
def advanceVerdict (clock : Byte) (s : State) : Verdict :=
  s.clockOperand clock fun h => .require (s.clocks.get h).state.started .wrongState <|
    .take .ok fun t => (t.setClock h fun c => { c with tenthPos := 0 }).endPhase h

/-- ABORT (R32). -/
def abortVerdict (clock : Byte) (s : State) : Verdict :=
  s.clockOperand clock fun h => .require (s.clocks.get h).state.started .wrongState <| .take .ok fun t => t.endMatch h

/-- REPLAY (R33). -/
def replayVerdict (clock : Byte) (s : State) : Verdict :=
  s.clockOperand clock fun h =>
    .require ((s.clocks.get h).state.started || decide ((s.clocks.get h).state = .ended)) .wrongState <| .take .ok fun t =>
      ((((t.arm h).reportClock h).flushSilent h).clearScoring h).zeroMatch h

/-- R34: the effect of CLEAR. -/
def State.clearMatch (s : State) (h : Half) : State :=
  let wasIdle := decide ((s.clocks.get h).state = .idle)
  let cleared := s.setClock h fun c =>
    { c with state := .idle, phase := 0, remaining := 0, elapsed := 0, tenthPos := 0, commandHold := false, stopHold := false,
             lineHold := s.lineHold h }
  let reported := if wasIdle then cleared else cleared.reportClock h
  ((((((reported.setTables h fun m => { m with active := .empty }).dropLinks h).flushSilent h).clearScoring h).zeroMatch h).autoOverrides h)

/-- CLEAR (R34). -/
def clearVerdict (clock : Byte) (s : State) : Verdict :=
  s.clockOperand clock fun h => .require (!(s.clocks.get h).state.started) .wrongState <| .take .ok fun t => t.clearMatch h

/-! ## Tenths (R35) -/

/-- TENTH_EVENT (R35): a RUNNING clock completes a tenth. The tenth is announced to the claim unit before the phase it ends. -/
def tenthEvent (h : Half) (s : State) : State :=
  if (s.clocks.get h).state = .running then
    let counted := s.setClock h fun c =>
      { c with remaining := c.remaining - 1, elapsed := bump c.elapsed, tenthPos := 0 }
    let announced := counted.claimTenths h
    if (s.clocks.get h).remaining ≤ 1 then announced.endPhase h else announced
  else s

/-- PHASE_EXPIRY (R36): the remaining tenths of a RUNNING clock reach 0 and the phase ends. -/
def phaseExpiry (h : Half) (s : State) : State :=
  if (s.clocks.get h).state = .running then (s.setClock h fun c => { c with remaining := 0, tenthPos := 0 }).endPhase h else s

/-! ## Split mode (R38) -/

/-- R38: the field stop latch of a half takes a value, with a STOP report of source SPLIT when it changes. -/
def State.carryStop (s : State) (h : Half) (value : Bool) : State :=
  if (s.clocks.get h).fieldStop = value then s
  else (s.setClock h fun c => { c with fieldStop := value }).report (.stop h .split value)

/-- R38, R43: a line engaged with STOP latches the half when its target includes it. -/
def State.latchFrom (s : State) (h : Half) (n : Fin 4) : State :=
  match (s.lines.get n).engaged with
  | some g => if g.action = .stop ∧ s.targets g.target h then s.latchStop h (.line n) else s
  | none => s

/-- R38: the effect of a taken SPLIT_SET. -/
def State.setSplit (s : State) (value : Bool) : State :=
  let emptied := { s with
    split := value
    tables := ⟨{ s.tables.a with pending := .empty, valid := .clear }, { s.tables.b with pending := .empty, valid := .clear }⟩ }
  let carried :=
    match s.split, value with
    | false, true =>
      (List.finRange 4).foldl (fun (t : State) n => t.latchFrom .b n) (emptied.carryStop .b s.clocks.a.fieldStop)
    | true, false => (emptied.carryStop .a (s.clocks.a.fieldStop || s.clocks.b.fieldStop)).carryStop .b false
    | _, _ => emptied
  carried.deriveHolds

/-- SPLIT_SET (R38). -/
def splitSetVerdict (value : Byte) (s : State) : Verdict :=
  .need (decodeYN value) .badValue fun v =>
    .require (decide (s.clocks.a.state = .idle) && decide (s.clocks.b.state = .idle)) .wrongState <|
      .take .ok fun t => t.setSplit v

/-! ## Arena lines (R40 to R43) -/

/-- WRITE_ARENA_LINES (R40). -/
def writeLinesVerdict (index : Byte) (r : LineRecord) : Verdict :=
  .need (decodeIndex 4 index) .badIndex fun n => .need (decodeLineAction r.action) .badValue fun action =>
    .need (decodeLineTarget r.target) .badValue fun target =>
      .take .ok fun t => t.setLine n fun x => { x with action := action, target := target }

/-- R41: a START edge at one clock: an armed clock whose half is not stopped starts, else the line counts an ignored start. -/
def State.startEdge (s : State) (n : Fin 4) (h : Half) : State :=
  if (s.clocks.get h).state = .armed ∧ (s.clocks.get h).fieldStop = false then s.startMatch h
  else s.setLine n fun x => { x with ignoredStarts := bump x.ignoredStarts }

/-- Something done for each half of a target, half A before half B: R43 says so of STOP; for START, where R41 gives no order, it
is the model's choice (log entry 32). -/
def State.eachHalf (s : State) (target : LineTarget) (f : State → Half → State) : State :=
  let first := if s.targets target .a then f s .a else s
  if s.targets target .b then f first .b else first

/-- ARENA_LINE_RISING_EDGE (R40 to R43). -/
def arenaLineRisingEdge (n : Fin 4) (s : State) : State :=
  let line := s.lines.get n
  if line.level then s
  else
    let engaged := (s.setLine n fun x => { x with level := true, engaged := some ⟨x.action, x.target⟩ }).deriveHolds
    match line.action with
    | .start => engaged.eachHalf line.target fun t h => t.startEdge n h
    | .stop => engaged.eachHalf line.target fun t h => t.latchStop h (.line n)
    | .hold => engaged
    | .none => engaged

/-- ARENA_LINE_FALLING_EDGE (R40, R42). -/
def arenaLineFallingEdge (n : Fin 4) (s : State) : State :=
  if (s.lines.get n).level then (s.setLine n fun x => { x with level := false, engaged := none }).deriveHolds else s

end Sys2Proof.Machine
end

