-- ==== Sys2Proof/Machine/Elements.lean ====
section
/-! DEFINITION. The element table (chapter 7, R117 to R125): checked writes, outputs, pulses and blinks. -/

namespace Sys2Proof.Machine

/-! ## Writes (R118, R119) -/

/-- R118 check 3: the sensor part of an ELEMENT record. -/
def sensorItem (r : SensorRecord) : Option SensorConfig :=
  (decodeSensorMode r.mode).map fun mode => { mode := mode, points := r.points.toNat }

/-- R118 check 3: the output part of an ELEMENT record, with its numbers brought into range. -/
def outputItem (r : OutputRecord) : Option OutputConfig :=
  (decodeOutputMode r.mode).map fun mode =>
    { mode := mode, safe := r.safe, pulse := clampNat 1 255 r.pulse.toNat, period := clampNat 10 255 r.period.toNat,
      duty := clampNat 1 99 r.duty.toNat }

/-- R118: whether a number of an output part lies outside its range. -/
def outputClamped (r : OutputRecord) : Bool :=
  decide (clampNat 1 255 r.pulse.toNat ≠ r.pulse.toNat ∨ clampNat 10 255 r.period.toNat ≠ r.period.toNat
    ∨ clampNat 1 99 r.duty.toNat ≠ r.duty.toNat)

/-- R118 check 3 and the clamping of a taken write: the entry as stored and whether a number was brought into range. Bits 6
and 7 of the phase mask are ignored (R180). -/
def elementItem (r : ElementRecord) : Option (ElementEntry × Bool) :=
  match decodeYN r.enabled, decodeOwner r.owner, decodeCredit r.credit, sensorItem (r.sensors.get 0),
      sensorItem (r.sensors.get 1), outputItem (r.outputs.get 0), outputItem (r.outputs.get 1) with
  | some enabled, some owner, some credit, some s0, some s1, some o0, some o1 =>
    some
      ({ enabled := enabled, owner := owner, credit := credit, mask := r.mask.extractLsb' 0 6,
         holdLimit := clampNat 0 6000 r.holdLimit.toNat, holdPoints := r.holdPoints.toNat,
         sensors := .build fun k => if k = 0 then s0 else s1, outputs := .build fun k => if k = 0 then o0 else o1 },
       decide (clampNat 0 6000 r.holdLimit.toNat ≠ r.holdLimit.toNat) || outputClamped (r.outputs.get 0)
         || outputClamped (r.outputs.get 1))
  | _, _, _, _, _, _, _ => none

/-- R118 check 4, judged on the record as received: a credit alliance only with owner FIELD, hold limit and hold points only
with owner SHARED. -/
def recordConsistent (r : ElementRecord) : Bool :=
  (r.credit == 0 || r.owner == 0) && ((r.holdLimit == 0 && r.holdPoints == 0) || r.owner == 3)

/-- R119: an answer to a poll in flight of a written element is discarded when it arrives. -/
def Transaction.voidFor (e : Fin 32) : Transaction → Transaction
  | .poll e' void => .poll e' (void || decide (e' = e))
  | t => t

/-- R119: a taken write stores the entry and resets the element's runtime state: outputs to their starting states, online
state UNKNOWN with no misses, claim emptied without answers, both baselines UNKNOWN. -/
def State.storeElement (s : State) (e : Fin 32) (x : ElementEntry) : State :=
  { s with
    entries := s.entries.set e x
    outputs := s.outputs.set e (.build fun k => (x.outputs.get k).mode.starting)
    elements := s.elements.modify e fun y => { y with online := .unknown, misses := 0 }
    claims := s.claims.set e .empty
    sensors := s.sensors.modify e fun t => t.update fun _ y => { y with baseline := none }
    bus := { s.bus with inFlight := s.bus.inFlight.voidFor e } }

/-- WRITE_ELEMENT (R118, R119). -/
def writeElementVerdict (index : Byte) (r : ElementRecord) (s : State) : Verdict :=
  .need (decodeIndex 32 index) .badIndex fun e =>
    .require (!(s.clocks.get (s.elementHalf e)).state.started) .wrongState <| .need (elementItem r) .badValue fun x =>
      .require (recordConsistent r) .badValue <| .take (codeOf x.2) fun t => t.storeElement e x.1

/-! ## Outputs (R123, R125) -/

/-- ELEMENT_OUTPUT (R125). -/
def elementOutputVerdict (element output value : Byte) (s : State) : Verdict :=
  .need (decodeIndex 32 element) .badIndex fun e => .need (decodeIndex 2 output) .badValue fun k =>
    .require (s.entries.get e).enabled .wrongState <|
    .require (!(s.clocks.get (s.elementHalf e)).fieldStop) .wrongState <|
      .take .ok fun t => t.applyOutput e k value

/-- R123: an ACTIVE pulse whose remaining time reaches 0 becomes IDLE. -/
def OutputState.expire : OutputState → OutputState
  | .pulse (some _) => .pulse none
  | x => x

/-- PULSE_EXPIRY (R123). -/
def pulseExpiry (e : Fin 32) (k : Fin 2) (s : State) : State := s.setOutput e k OutputState.expire

/-- R123: a RUNNING blink whose position reaches the period returns to 0. -/
def OutputState.wrap : OutputState → OutputState
  | .blink (some _) => .blink (some 0)
  | x => x

/-- BLINK_PERIOD_END (R123). -/
def blinkPeriodEnd (e : Fin 32) (k : Fin 2) (s : State) : State := s.setOutput e k OutputState.wrap

end Sys2Proof.Machine
end

