-- ==== Sys2Proof/Machine/ElementBus.lean ====
section
/-! DEFINITION. The element bus controller (chapter 7, R126 to R136): sweeps, polls, bus modes, pass-through, the reset wait. -/

namespace Sys2Proof.Machine

/-! ## Sweeps (R127) -/

/-- R127: the next element of a sweep: the lowest enabled one above the sweep position. -/
def State.nextElement (s : State) : Option (Fin 32) :=
  allElements.find? fun e =>
    (s.entries.get e).enabled &&
      match s.bus.position with
      | some p => decide (p < e)
      | none => true

/-- R127: a sweep starts with the position at none; with no enabled element it ends at once. -/
def State.startSweep (s : State) : State :=
  s.setBus fun b =>
    { b with sweeping := allElements.any fun e => (s.entries.get e).enabled
             position := none, elapsed := 0, due := false }

/-- R127, R136: the sweep in progress ends, and a sweep that is due starts late and is counted. -/
def State.endSweep (s : State) : State :=
  let ended := s.setBus fun b => { b with sweeping := false, position := none }
  if s.bus.due then (ended.setBus fun b => { b with overruns := bump b.overruns }).startSweep else ended

/-- R127: with the bus free in a sweep, the sweep ends when no enabled element lies above the position. -/
def State.checkSweep (s : State) : State := if s.bus.sweeping ∧ s.nextElement = none then s.endSweep else s

/-- SWEEP_START (R127): the sweep period has passed since the previous sweep started. -/
def sweepStart (s : State) : State :=
  if s.bus.actual = .auto ∧ s.bus.resetWait = false then
    if s.bus.sweeping then s.setBus fun b => { b with due := true } else s.startSweep
  else s

/-! ## Bus modes (R131, R132) -/

/-- R132: the actual mode becomes the requested mode, with a BUS_MODE report when it changes. To MANUAL abandons the sweep in
progress, to AUTO starts one (R131). -/
def State.applyMode (s : State) : State :=
  if s.bus.actual = s.bus.requested then s
  else
    let changed := s.setBus fun b => { b with actual := s.bus.requested }
    let swept :=
      match s.bus.requested with
      | .manual => changed.setBus fun b => { b with sweeping := false, position := none, due := false }
      | .auto => changed.startSweep
    swept.report (.busMode s.bus.requested)

/-- R127: the milliseconds since the last sweep started, at most 50, the longest period; a sweep that is due says that the period
has passed. -/
def Bus.sinceStart (b : Bus) : Nat := if b.due then max b.elapsed b.period else b.elapsed

/-- R132: the mode and period are stored, and the period governs the next sweep: one that waits for the sweep in progress goes on
waiting only where the new period has passed as well (log entry 29). -/
def Bus.request (b : Bus) (m : BusMode) (period : Nat) : Bus :=
  { b with
    requested := m, period := period, elapsed := b.sinceStart
    due := b.sweeping && decide (b.actual = .auto) && decide (period ≤ b.sinceStart) }

/-- BUS_MODE (R132). -/
def busModeVerdict (mode period : Byte) : Verdict :=
  .need (decodeBusMode mode) .badValue fun m =>
    let stored := clampNat 5 50 period.toNat
    .take (codeOf (decide (stored ≠ period.toNat))) fun s =>
      let set := s.setBus fun b => b.request m stored
      if s.bus.inFlight = .none then set.applyMode else set

/-! ## Polls (R128 to R130) -/

/-- R128: a poll of an element begins: its effective values go out and become its last sent values. -/
def State.beginPoll (s : State) (e : Fin 32) : State :=
  let frame := pollFrame e (s.effective e 0) (s.effective e 1)
  (s.setElement e fun x => { x with lastSent := .build fun k => s.effective e k }).setBus fun b =>
    { b with position := some e, inFlight := .poll e false, wire := frame }

/-- POLL_BEGIN (R127, R128): the bus is free in a sweep. -/
def pollBegin (s : State) : State :=
  if s.bus.actual = .auto ∧ s.bus.resetWait = false ∧ s.bus.sweeping = true ∧ s.bus.inFlight = .none then
    match s.nextElement with
    | some e => s.beginPoll e
    | none => s.endSweep
  else s

/-- R129: a good answer: no misses, ONLINE with a report when it was not, and the readings to the scoring unit. -/
def State.goodAnswer (s : State) (e : Fin 32) (r : PollReading) : State :=
  let was := (s.elements.get e).online
  let met := s.setElement e fun x => { x with misses := 0, online := .online }
  (if was = .online then met else met.report (.elementState e .online)).readings e r

/-- R130: a missed poll: counted, and at the third consecutive miss the element is OFFLINE with a report and a flush. -/
def State.missedPoll (s : State) (e : Fin 32) : State :=
  let counted := s.setElement e fun x => { x with missedAnswers := bump x.missedAnswers }
  if (s.elements.get e).online = .offline then counted
  else if (s.elements.get e).misses + 1 < 3 then counted.setElement e fun x => { x with misses := x.misses + 1 }
  else
    ((counted.setElement e fun x => { x with misses := 3, online := .offline }).report (.elementState e .offline)).flush .offline e

/-- A frame counted under bad answers (R136). -/
def State.badAnswer (s : State) : State := s.setBus fun b => { b with badAnswers := bump b.badAnswers }

/-- R128 to R130: the outcome of a poll. -/
def State.judgeAnswer (s : State) (e : Fin 32) (answer : Option BusFrame) : State :=
  match answer with
  | none => s.missedPoll e
  | some f =>
    match judgePoll e f with
    | some r => s.goodAnswer e r
    | none => s.badAnswer.missedPoll e

/-- R132, R127: the end of a transaction frees the bus, applies a waiting change of mode and lets a finished sweep end. -/
def State.freeBus (s : State) : State := ((s.setBus fun b => { b with inFlight := .none }).applyMode).checkSweep

/-- POLL_END (R128): the answer to a voided poll is discarded (R119). That a voided poll without an answer counts no miss either is
the model's choice (log entry 35). -/
def pollEnd (answer : Option BusFrame) (s : State) : State :=
  match s.bus.inFlight with
  | .poll e void => (if void then s else s.judgeAnswer e answer).freeBus
  | _ => s

/-- ELEMENT_BUS_STRAY_BYTES (R128, R135): a frame of bytes with no transaction in flight is counted, but not in the reset
wait. -/
def strayBytes (s : State) : State :=
  if s.bus.inFlight = .none ∧ s.bus.resetWait = false then s.badAnswer else s

/-! ## Pass-through (R133, R134) -/

/-- R133: the check that refuses a PASS, none when it is taken. -/
def State.passRefusal (s : State) (address count expected : Byte) : Option ResultCode :=
  if !(decide (1 ≤ address.toNat ∧ address.toNat ≤ 32) && decide (1 ≤ count.toNat ∧ count.toNat ≤ 8)
      && decide (expected.toNat ≤ 8))
  then some .badValue
  else if s.bus.actual ≠ .manual then some .wrongState
  else
    match s.bus.inFlight with
    | .pass _ _ _ => some .busy
    | _ => none

/-- R133, R134, R172: a PASS that is taken becomes the transaction in flight and forms no REPLY yet. -/
def State.servePass (s : State) (tag address count expected : Byte) (bytes : List Byte) : State :=
  match s.passRefusal address count expected with
  | some code => s.answer tag code []
  | none => s.setBus fun b => { b with inFlight := .pass tag address expected, wire := passFrame address bytes }

/-- R134: the deferred REPLY of a PASS and its counters. -/
def State.judgePassEnd (s : State) (tag address expected : Byte) (answer : Option BusFrame) : State :=
  if expected = 0 then s.reply ⟨tag, .ok, [], true⟩
  else
    match answer.bind (judgePass address expected) with
    | some data => s.reply ⟨tag, .ok, data, true⟩
    | none =>
      let late := (s.reply ⟨tag, .timeout, [], true⟩).setBus fun b => { b with passTimeouts := bump b.passTimeouts }
      if answer.isSome then late.badAnswer else late

/-- R134: the end of a PASS at the element bus controller; the trunk port's part is in Machine/Trunk.lean. -/
def State.endPass (s : State) (answer : Option BusFrame) : State :=
  match s.bus.inFlight with
  | .pass tag address expected => (s.judgePassEnd tag address expected answer).freeBus
  | _ => s

/-! ## The reset wait (R135) -/

/-- BUS_RESET_WAIT_END (R135): the first sweep starts in AUTO mode. -/
def busResetWaitEnd (s : State) : State :=
  if s.bus.resetWait then
    let waited := s.setBus fun b => { b with resetWait := false }
    if s.bus.actual = .auto ∧ s.bus.sweeping = false then waited.startSweep else waited
  else s

end Sys2Proof.Machine
end

