-- ==== Sys2Proof/Machine/RadioScheduler.lean ====
section
/-! DEFINITION. The radio scheduler (chapter 6): link profiles, the cycle and its parts, downlinks, replies, joins, liveness. -/

namespace Sys2Proof.Machine

/-! ## Link profile (R97 to R99) -/

/-- R98: the enumerations of a LINK record, its radio channel, and its cycle period clamped; whether it was clamped. -/
def linkItem (r : LinkRecord) : Option (LinkProfile × Bool) :=
  match decodeIndex 16 r.channel, decodeAirRate r.rate, decodeYN r.join with
  | some channel, some rate, some join =>
    some ({ channel := channel, rate := rate, arena := r.arena, period := clampNat 10 100 r.period.toNat, join := join },
      decide (clampNat 10 100 r.period.toNat ≠ r.period.toNat))
  | _, _, _ => none

/-- WRITE_LINK (R98). -/
def writeLinkVerdict (index : Byte) (r : LinkRecord) : Verdict :=
  .require (index == 0) .badIndex <| .need (linkItem r) .badValue fun x =>
    .take (codeOf x.2) fun t => t.setRadio fun y => { y with pendingProfile := x.1 }

/-! ## The cycle (R100 to R105) -/

/-- A slot that is LINKED or LOST. -/
def LinkState.bound : LinkState → Bool
  | .linked => true
  | .lost => true
  | _ => false

/-- R101: the window list: every bound slot in ascending order. -/
def State.windowList (s : State) : List (Fin 24) := (List.finRange 24).filter fun i => (s.links.get i).state.bound

/-- R101: the need of a cycle with `n` windows, in milliseconds. -/
def LinkProfile.need (p : LinkProfile) (n : Nat) : Nat := if p.join then 1 + n + 2 else 1 + n

/-- R105: the scheduler looks at the transceiver's ready input where no command gives its level: the level is a free value of its
own at each look (log entry 30). -/
def State.lookReady (s : State) : State :=
  s.setRadio fun r => { r with ready := Config.transceiverReady r.looks, looks := r.looks + 1 }

/-- R102, R105: the beacon of a cycle is composed and handed over when the transceiver is ready, and its answers leave the
queue; otherwise it is counted. -/
def State.sendBeacon (s : State) : State :=
  s.setRadio fun r =>
    if r.ready then { r with out := s.beacon, answers := r.answers.drop 2 }
    else { r with counters := { r.counters with notReady := bump r.counters.notReady } }

/-- R101: the beginning of a cycle with a given number: window list, length, stretched flag; then its beacon (R102). A stretched
cycle is counted here; that the count stays when the cycle ends early (R100) is the model's choice (log entry 36). -/
def State.beginCycle (s : State) (number : Byte) : State :=
  let list := s.windowList
  let need := s.radio.profile.need list.length
  let long := decide (s.radio.profile.period < need)
  let begun := s.setRadio fun r =>
    { r with cycle := number, windows := list, toCome := list, length := if long then need else r.profile.period,
             stretched := long, unknownJoin := false, part := .beacon, position := 0 }
  (if long then begun.countRadio fun c => { c with stretched := bump c.stretched } else begun).sendBeacon

/-- R101: the next cycle begins. -/
def State.nextCycle (s : State) : State := s.beginCycle (s.radio.cycle + 1)

/-- CYCLE_BEGIN (R101, R105). That it begins the next cycle at once in every part of the one in progress, and leaves a window still
open unjudged, is the model's choice (log entry 34). -/
def cycleBegin (ready : Bool) (s : State) : State := (s.setRadio fun r => { r with ready := ready }).nextCycle

/-- R99: every bound slot is dropped to SEARCHING, with its timer stopped and its last-sent values at 0. -/
def State.dropBound (s : State) : State :=
  (s.setLinks fun _ x => if x.state.bound then { x with state := .searching, liveness := none } else x).setSlots fun i x =>
    if (s.links.get i).state.bound then x.zeroSent else x

/-- APPLY_LINK (R99): the cycle that begins at once looks at the ready input for its beacon (R105; log entry 30). -/
def applyLinkVerdict (s : State) : Verdict :=
  let still (h : Half) : Bool := decide ((s.clocks.get h).state = .idle) || decide ((s.clocks.get h).state = .armed)
  .require (still .a && still .b) .wrongState <| .take .ok fun t =>
    ((t.setRadio fun r => { r with profile := r.pendingProfile, answers := [] }).dropBound).lookReady.nextCycle

/-- R50, R72 to R74, R103: the DOWNLINK to a slot is composed and handed over, and its values become the last-sent values. -/
def State.sendDownlink (s : State) (i : Fin 24) : State :=
  let values := s.stage2 i (s.moves i)
  let frame := s.downlink i (s.permission i).enabled values (s.downlinkButtons i)
  (s.setSlot i fun x => { x with lastSent := values }).setRadio fun r => { r with out := frame }

/-- R103, R105: the next window of the cycle begins: its DOWNLINK when the transceiver is ready, else a count. -/
def State.openWindow (s : State) : State :=
  match s.radio.toCome with
  | [] => s
  | i :: rest =>
    let opened := s.setRadio fun r =>
      { r with part := .window i false false, toCome := rest, position := r.windows.length - rest.length }
    if s.radio.ready then opened.sendDownlink i else opened.countRadio fun c => { c with notReady := bump c.notReady }

/-- The part of the cycle that follows the beacon or a window when no window is left: the join window, if it is ON (R104). -/
def LinkProfile.afterWindows (p : LinkProfile) : CyclePart := if p.join then .join else .rest

/-- R111: the end of the window in progress; a window of a bound slot without a good REPLY is missed. -/
def State.closeWindow (s : State) : State :=
  match s.radio.part with
  | .window i _ good =>
    let closed := s.setRadio fun r =>
      { r with part := if r.toCome = [] then r.profile.afterWindows else .between
               position := 1 + r.windows.length - r.toCome.length }
    if (s.links.get i).state.bound && !good then closed.setLink i fun x => { x with missed := bump x.missed } else closed
  | _ => s

/-- Whether the cycle stands where a slot window may begin: after the beacon or a closed window. -/
def CyclePart.awaitsWindow : CyclePart → Bool
  | .beacon => true
  | .between => true
  | _ => false

/-- SLOT_WINDOW_BEGIN (R103, R105). -/
def slotWindowBegin (ready : Bool) (s : State) : State :=
  if s.radio.part.awaitsWindow ∧ s.radio.toCome ≠ [] then (s.setRadio fun r => { r with ready := ready }).openWindow else s

/-- SLOT_WINDOW_END (R111). -/
def slotWindowEnd (s : State) : State := s.closeWindow

/-! ## Replies (R111, R112) -/

/-- R111: whether a REPLY accepted in a slot's window is good. -/
def State.goodReply (s : State) (i : Fin 24) (arena slot : Byte) (kit : BitVec 32) (payload : List Byte) : Bool :=
  arena == s.radio.profile.arena && slot == num8 i && kit == (s.slotEntry i).kit && (s.links.get i).state.bound
    && decide (payload.length ≤ 12)

/-- A frame counted under foreign frames. -/
def State.countForeign (s : State) : State := s.countRadio fun c => { c with foreign := bump c.foreign }

/-- R91, R112: the TELEMETRY frame of a good REPLY, for a slot whose station is present. -/
def State.telemetry (s : State) (i : Fin 24) (battery : BitVec 16) (status : Byte) (payload : List Byte) : State :=
  match (s.slotEntry i).station with
  | some n =>
    if (s.stationEntry n).present then
      s.setConsole n (·.pushTelemetry (s.slotEntry i).selector (.telemetry (s.slotEntry i).selector battery status payload))
    else s
  | none => s

/-- R112: the effects of a good REPLY. -/
def State.takeReply (s : State) (i : Fin 24) (battery : BitVec 16) (status : Byte) (payload : List Byte) : State :=
  let wasLost := decide ((s.links.get i).state = .lost)
  let alive := s.setLink i fun x =>
    { x with state := .linked, liveness := some (s.slotEntry i).timeout, battery := battery, status := status }
  let reported := if wasLost then alive.report (.link i .linked .reply (s.slotEntry i).kit 0) else alive
  reported.telemetry i battery status payload

/-- REPLY_RECEIVED (R103, R104, R111, R112): the first REPLY of a window is judged, further ones have no effect; outside a slot
window a REPLY is discarded and counted. A further REPLY of another arena is not counted either: R103 leaves it without effect,
and that this goes before R116's count is the model's choice (log entry 31). -/
def replyReceived (arena slot : Byte) (kit : BitVec 32) (battery : BitVec 16) (status : Byte) (payload : List Byte) (s : State) :
    State :=
  match s.radio.part with
  | .window i false good =>
    let isGood := s.goodReply i arena slot kit payload
    let seen := s.setRadio fun r => { r with part := .window i true (good || isGood) }
    let counted := if arena = s.radio.profile.arena then seen else seen.countForeign
    if isGood then counted.takeReply i battery status payload else counted
  | .window _ true _ => s
  | _ => s.countForeign

/-! ## Joins (R107 to R110) -/

/-- The active slot entry of a bank that holds a kit ID. -/
def findKit (slots : Tab 24 SlotEntry) (kit : BitVec 32) : Option (Fin 24) :=
  (List.finRange 24).find? fun i => (slots.get i).kit == kit

/-- R107: the slot that holds a kit ID, looked up in both active banks. -/
def State.slotOfKit (s : State) (kit : BitVec 32) : Option (Fin 24) :=
  (findKit (s.active .a).slots kit).or (findKit (s.active .b).slots kit)

/-- R110: a join answer is placed: not twice for one kit, at the tail, or dropped and counted at 4. -/
def State.placeAnswer (s : State) (a : JoinAnswer) : State :=
  if s.radio.answers.any (·.kit == a.kit) then s
  else if s.radio.answers.length < 4 then s.setRadio fun r => { r with answers := r.answers ++ [a] }
  else s.countRadio fun c => { c with answersDropped := bump c.answersDropped }

/-- R108, R109: a known JOIN links its slot, with a fresh timer, last-sent values of 0, a join answer and a LINK report. -/
def State.bind (s : State) (i : Fin 24) (cause : LinkCause) (kit : BitVec 32) (kitClass : Byte) : State :=
  ((((s.setLink i fun x => { x with state := .linked, liveness := some (s.slotEntry i).timeout }).setSlot i
    SlotAdmission.zeroSent).placeAnswer ⟨kit, i⟩).report (.link i .linked cause kit kitClass))

/-- R107: an unknown JOIN is counted, and reported at most once in a cycle. -/
def State.unknownJoin (s : State) (kit : BitVec 32) (kitClass : Byte) : State :=
  let counted := s.countRadio fun c => { c with unknownJoins := bump c.unknownJoins }
  if s.radio.unknownJoin then counted
  else (counted.setRadio fun r => { r with unknownJoin := true }).report (.joinUnknown kit kitClass)

/-- R107 to R109: a JOIN in the join window. -/
def State.takeJoin (s : State) (arena : Byte) (kit : BitVec 32) (kitClass : Byte) : State :=
  if arena ≠ s.radio.profile.arena then s.countForeign
  else if kit = 0 then s.countRadio fun c => { c with errors := bump c.errors }
  else
    match s.slotOfKit kit with
    | none => s.unknownJoin kit kitClass
    | some i =>
      match (s.links.get i).state with
      | .searching => s.bind i .join kit kitClass
      | .linked => s.bind i .restart kit kitClass
      | .lost => s.bind i .restart kit kitClass
      | .vacant => s

/-- JOIN_RECEIVED (R104, R107): outside the join window a JOIN is discarded and counted. -/
def joinReceived (arena : Byte) (kit : BitVec 32) (kitClass : Byte) (s : State) : State :=
  if s.radio.part = .join then s.takeJoin arena kit kitClass else s.countForeign

/-- RADIO_FRAME_DAMAGED (R181): a damaged frame is counted; a frame that R181 does not call damaged is taken as what it is. -/
def radioFrameDamaged (whole : Bool) (bytes : List Byte) (s : State) : State :=
  match judgeRadio whole bytes with
  | none => s.countRadio fun c => { c with errors := bump c.errors }
  | some (.reply arena slot kit battery status payload) => replyReceived arena slot kit battery status payload s
  | some (.join arena kit kitClass) => joinReceived arena kit kitClass s

/-! ## Liveness (R113) -/

/-- LIVENESS_EXPIRY (R113): the running timer of a LINKED slot reaches 0. -/
def livenessExpiry (i : Fin 24) (s : State) : State :=
  if (s.links.get i).state = .linked ∧ (s.links.get i).liveness.isSome then
    ((((s.setLink i fun x => { x with state := .lost, liveness := none }).setSlot i fun x => { x with stickyLost := true }).setRadio
      fun r => { r with answers := r.answers.filter fun a => a.slot ≠ i }).report
        (.link i .lost .expiry (s.slotEntry i).kit 0))
  else s

end Sys2Proof.Machine
end

