-- ==== Sys2Proof/Machine/Reads.lean ====
section
/-! DEFINITION. The READ requests of the trunk (R13, R37, R40, R64, R65, R98, R120, R136, R159, R162, R170, R175) with the
record layouts of chapter 11. A read returns data or a refusal code; it changes nothing. -/

namespace Sys2Proof.Machine

/-- The answer of a read: its record, or the code that refuses it. -/
abbrev ReadAnswer := Except ResultCode (List Byte)

/-- A read that stops with a code when an operand is outside its code table. -/
def readNeed {α : Type} (x : Option α) (code : ResultCode) (k : α → ReadAnswer) : ReadAnswer :=
  match x with
  | some a => k a
  | none => .error code

/-- A read that stops with a code when a condition fails. -/
def readRequire (b : Bool) (code : ResultCode) (k : ReadAnswer) : ReadAnswer := if b then k else .error code

/-! ## Codes used by reads only -/

/-- The bank of a read. -/
inductive ReadBank where
  | active
  | pending
  deriving DecidableEq, Repr

/-- Bank. -/
def decodeBank (b : Byte) : Option ReadBank := if b = 0 then some .active else if b = 1 then some .pending else none

/-- A mode state's code and state value (chapter 11). -/
def OutputState.stateBytes : OutputState → List Byte
  | .level v => [0, 0, v]
  | .pulse none => [0, 0, 0]
  | .pulse (some remaining) => 1 :: num16 remaining
  | .toggle on => [codeYN on, 0, 0]
  | .blink none => [0, 0, 0]
  | .blink (some position) => 1 :: num16 position

/-! ## Match tables (R13) -/

/-- The MATCH_HEADER record. -/
def Header.bytes (x : Header) : List Byte :=
  bytes16 x.number ++ bytes24 x.slots ++ bytes16 (x.stations.zeroExtend 16) ++ [codeYN x.autoTurnover]

/-- The SLOT record. -/
def SlotEntry.bytes (x : SlotEntry) : List Byte :=
  bytes32 x.kit ++ [codeStation x.station, num8 x.selector, num8 x.power, num8 x.deadband] ++ num16 x.slew ++ num16 x.timeout

/-- The STATION record. -/
def StationEntry.bytes (x : StationEntry) : List Byte := num16 x.team ++ [codeAlliance x.alliance] ++ num16 x.hold

/-- One entry of the SCHEDULE record. -/
def PhaseEntry.bytes (x : PhaseEntry) : List Byte := [codePhaseKind x.kind] ++ num16 x.duration ++ [num8 x.profile]

/-- The PROFILE record. -/
def Profile.bytes (x : Profile) : List Byte :=
  [codeYN x.robotEnable, codeYN x.driveAdmit, x.buttons, num8 x.scale, codeYN x.elementAdmit]

/-- R13: what a read of the pending MATCH_HEADER adds: valid flag, lock flag and the two missing lists, N and empty when the
header is not valid. -/
def State.pendingHeaderBytes (s : State) (h : Half) : List Byte :=
  let valid := (s.tables.get h).valid.header
  [codeYN valid, codeYN (s.lock h)] ++ bytes24 (if valid then s.missingSlots h else 0)
    ++ bytes16 (if valid then (s.missingStations h).zeroExtend 16 else 0)

/-- R13: the checks of a read of a match table: clock, clock B, index and half, bank. -/
def State.readTable {α : Type} (s : State) (clock bank index : Byte) (decode : Byte → Option α) (inHalf : Half → α → Bool)
    (record : Half → α → ReadBank → List Byte) : ReadAnswer :=
  readNeed (decodeHalf clock) .badValue fun h => readRequire (decide (h = .a) || s.split) .wrongState <|
    readNeed (decode index) .badIndex fun i => readRequire (inHalf h i) .badIndex <|
      readNeed (decodeBank bank) .badValue fun b => .ok (record h i b)

/-- The index of a table with one record. -/
def decodeZero (b : Byte) : Option Unit := if b = 0 then some () else none

/-- READ MATCH_HEADER. -/
def State.readHeader (s : State) (clock bank index : Byte) : ReadAnswer :=
  s.readTable clock bank index decodeZero (fun _ _ => true) fun h _ b =>
    match b with
    | .active => (s.active h).header.bytes
    | .pending => (s.tables.get h).pending.header.bytes ++ s.pendingHeaderBytes h

/-- READ SLOT. -/
def State.readSlot (s : State) (clock bank index : Byte) : ReadAnswer :=
  s.readTable clock bank index (decodeIndex 24) (fun h i => decide (s.slotHalf i = h)) fun h i b =>
    match b with
    | .active => ((s.active h).slots.get i).bytes
    | .pending => ((s.tables.get h).pending.slots.get i).bytes ++ [codeYN ((s.tables.get h).valid.slots.get i)]

/-- READ STATION. -/
def State.readStation (s : State) (clock bank index : Byte) : ReadAnswer :=
  s.readTable clock bank index (decodeIndex 12) (fun h n => decide (s.stationHalf n = h)) fun h n b =>
    match b with
    | .active => ((s.active h).stations.get n).bytes
    | .pending => ((s.tables.get h).pending.stations.get n).bytes ++ [codeYN ((s.tables.get h).valid.stations.get n)]

/-- READ SCHEDULE. -/
def State.readSchedule (s : State) (clock bank index : Byte) : ReadAnswer :=
  s.readTable clock bank index decodeZero (fun _ _ => true) fun h _ b =>
    match b with
    | .active => (s.active h).schedule.toList.flatMap PhaseEntry.bytes
    | .pending =>
      (s.tables.get h).pending.schedule.toList.flatMap PhaseEntry.bytes ++ [codeYN (s.tables.get h).valid.schedule]

/-- READ PROFILE. -/
def State.readProfile (s : State) (clock bank index : Byte) : ReadAnswer :=
  s.readTable clock bank index (decodeIndex 4) (fun _ _ => true) fun h p b =>
    match b with
    | .active => ((s.active h).profiles.get p).bytes
    | .pending => ((s.tables.get h).pending.profiles.get p).bytes ++ [codeYN ((s.tables.get h).valid.profiles.get p)]

/-! ## Clocks, arena lines, link profile, scores (R37, R40, R98, R159) -/

/-- READ CLOCK_STATUS (R37): clock B may be read outside split mode. -/
def State.readClockStatus (s : State) (clock : Byte) : ReadAnswer :=
  readNeed (decodeHalf clock) .badValue fun h =>
    let c := s.clocks.get h
    .ok ([codeClockState c.state, num8 c.phase] ++ num16 c.remaining ++ num16 c.elapsed
      ++ [num8 c.tenthPos, codeHolds c.commandHold c.lineHold c.stopHold, codeYN c.fieldStop, codeYN s.split]
      ++ bytes16 (s.matchNumber h) ++ [codePhaseKind (s.publishedKind h)] ++ num16 c.remainingSeconds)

/-- READ ARENA_LINES (R40). The engaged target of a line with no engagement is a free value (log entry 13). -/
def State.readLine (s : State) (index : Byte) : ReadAnswer :=
  readNeed (decodeIndex 4 index) .badIndex fun n =>
    let x := s.lines.get n
    let engaged :=
      match x.engaged with
      | some g => [codeLineAction g.action, codeLineTarget g.target]
      | none => [0, Config.unengagedTarget n]
    .ok ([codeLineAction x.action, codeLineTarget x.target, codeYN x.level] ++ engaged)

/-- The LINK record. -/
def LinkProfile.bytes (x : LinkProfile) : List Byte :=
  [num8 x.channel, codeAirRate x.rate, x.arena, num8 x.period, codeYN x.join]

/-- READ LINK (R98). -/
def State.readLink (s : State) (bank index : Byte) : ReadAnswer :=
  readRequire (index == 0) .badIndex <| readNeed (decodeBank bank) .badValue fun b =>
    match b with
    | .pending => .ok s.radio.pendingProfile.bytes
    | .active =>
      .ok (s.radio.profile.bytes ++ [s.radio.cycle, num8 s.radio.length, codeYN s.radio.stretched,
        num8 s.radio.windows.length, num8 s.radio.answers.length])

/-- READ SCORE (R159): clock B may be read outside split mode. -/
def State.readScore (s : State) (clock : Byte) : ReadAnswer :=
  readNeed (decodeHalf clock) .badValue fun h =>
    .ok ([codeClockState (s.clocks.get h).state] ++ bytes16 (s.active h).header.number ++ num16 (s.scores.get h).red
      ++ num16 (s.scores.get h).blue)

/-! ## Slots and stations (R64, R65) -/

/-- READ SLOT_STATUS (R64). -/
def State.readSlotStatus (s : State) (index : Byte) : ReadAnswer :=
  readNeed (decodeIndex 24 index) .badIndex fun i =>
    let x := s.slots.get i
    let link := s.links.get i
    let reason := s.permission i
    .ok (bytes32 (s.slotEntry i).kit
      ++ [codeLinkState link.state, codeYN reason.enabled, codePermission reason, codeOverride x.override,
        codeYN (s.testMode i), codeYN x.stickyLost]
      ++ bytes16 link.battery ++ [link.status] ++ x.targets.toList.flatMap int16 ++ x.lastSent.toList.flatMap int16
      ++ [x.buttons] ++ num16 x.admitted ++ num16 x.discarded)

/-- The four bytes that a STATION_STATUS read gives to a selector: found, slot, permission, reason. What the last three hold
when no slot is found is a free value (log entry 13). -/
def State.selectorReadBytes (s : State) (n : Fin 12) (k : Fin 2) : List Byte :=
  match s.findSlot n (num8 k) with
  | some i => [1, num8 i, codeYN (s.permission i).enabled, codePermission (s.permission i)]
  | none => 0 :: bytes24 (Config.unfoundSelectorBytes n k)

/-- READ STATION_STATUS (R65). The silence remaining of a stopped timer reads FFFFh (chapter 11). -/
def State.readStationStatus (s : State) (index : Byte) : ReadAnswer :=
  readNeed (decodeIndex 12 index) .badIndex fun n =>
    let x := s.stations.get n
    let entry := s.stationEntry n
    .ok ([codeYN entry.present] ++ num16 entry.team
      ++ [codeAlliance entry.alliance, codeYN x.stopLatch, codeYN (s.console.get n).breakPresent, codeYN x.silence.isSome]
      ++ codeTimer x.silence ++ num16 x.unassigned ++ num16 x.noSlot ++ s.selectorReadBytes n 0 ++ s.selectorReadBytes n 1)

/-! ## Elements (R120, R136, R162) -/

/-- The sensor part of the ELEMENT record. -/
def SensorConfig.bytes (x : SensorConfig) : List Byte := [codeSensorMode x.mode, num8 x.points]

/-- The output part of the ELEMENT record. -/
def OutputConfig.bytes (x : OutputConfig) : List Byte :=
  [codeOutputMode x.mode, x.safe, num8 x.pulse, num8 x.period, num8 x.duty]

/-- The ELEMENT record. -/
def ElementEntry.bytes (x : ElementEntry) : List Byte :=
  [codeYN x.enabled, codeOwner x.owner, codeAlliance x.credit, x.mask.zeroExtend 8] ++ num16 x.holdLimit ++ [num8 x.holdPoints]
    ++ x.sensors.toList.flatMap SensorConfig.bytes ++ x.outputs.toList.flatMap OutputConfig.bytes

/-- READ ELEMENT (R120). -/
def State.readElement (s : State) (index : Byte) : ReadAnswer :=
  readNeed (decodeIndex 32 index) .badIndex fun e => .ok (s.entries.get e).bytes

/-- What ELEMENT_STATUS gives of an output. -/
def State.outputStatusBytes (s : State) (e : Fin 32) (k : Fin 2) : List Byte :=
  ((s.outputs.get e).get k).stateBytes ++ [s.modeOutput e k, s.effective e k, (s.elements.get e).lastSent.get k]

/-- What ELEMENT_STATUS gives of a sensor (R162). -/
def State.sensorStatusBytes (s : State) (e : Fin 32) (k : Fin 2) : List Byte :=
  let x := (s.sensors.get e).get k
  ((s.entries.get e).sensors.get k).bytes ++ num16 x.count
    ++ [codeLevel x.level, codeBaseline x.baseline, codeYN x.captured] ++ num16 x.captureTime

/-- What ELEMENT_STATUS gives of a claim: the waiters head first, FFh where there are none. -/
def Claim.bytes (c : Claim) : List Byte :=
  [codeStation c.holder, num8 c.waiters.length] ++ (List.range 4).map (fun j => codeStation c.waiters[j]?) ++ codeTimer c.timer
    ++ [num8 c.accumulator]

/-- READ ELEMENT_STATUS (R120). -/
def State.readElementStatus (s : State) (index : Byte) : ReadAnswer :=
  readNeed (decodeIndex 32 index) .badIndex fun e =>
    let x := s.elements.get e
    .ok ([codeHalf (s.elementHalf e), codeOnline x.online, num8 x.misses] ++ num16 x.missedAnswers
      ++ s.outputStatusBytes e 0 ++ s.outputStatusBytes e 1 ++ s.sensorStatusBytes e 0 ++ s.sensorStatusBytes e 1
      ++ (s.claims.get e).bytes)

/-- The number of enabled elements in an online state. -/
def State.onlineCount (s : State) (x : Online) : Nat :=
  (allElements.filter fun e => (s.entries.get e).enabled && decide ((s.elements.get e).online = x)).length

/-- The kind of the transaction in flight and its address; the address of an idle bus is a free value (log entry 13). -/
def Transaction.statusBytes : Transaction → List Byte
  | .none => [0, Config.idleBusAddress]
  | .poll e _ => [1, busAddress e]
  | .pass _ address _ => [2, address]

/-- READ BUS_STATUS (R136). -/
def State.readBusStatus (s : State) (index : Byte) : ReadAnswer :=
  readRequire (index == 0) .badIndex <|
    .ok ([codeBusMode s.bus.requested, codeBusMode s.bus.actual, num8 s.bus.period,
        match s.bus.position with
        | some e => busAddress e
        | none => 0]
      ++ s.bus.inFlight.statusBytes ++ [num8 (s.onlineCount .online), num8 (s.onlineCount .offline), num8 (s.onlineCount .unknown)])

/-! ## Counters (R175) -/

/-- The ten counters of R81 in their table's order. -/
def LineCounters.list (c : LineCounters) : List Nat :=
  [c.overruns, c.framingErrors, c.breaks, c.gapTimeouts, c.checkFailures, c.unknownKinds, c.formatErrors, c.completed,
    c.telemetryDropped, c.replyLosses]

/-- The six counters of R164 in their table's order. -/
def TrunkCounters.list (c : TrunkCounters) : List Nat :=
  [c.accepted, c.checkFailures, c.lengthErrors, c.gapTimeouts, c.overflows, c.reportLosses]

/-- The six counters of R116 in their table's order. -/
def RadioCounters.list (c : RadioCounters) : List Nat :=
  [c.stretched, c.errors, c.foreign, c.unknownJoins, c.answersDropped, c.notReady]

/-- The counters of a group. -/
def State.counterGroup (s : State) (g : Fin 18) : List Nat :=
  if g = 0 then s.trunk.counters.list
  else if g = 1 then s.radio.counters.list
  else if g = 2 then s.links.toList.map (·.missed)
  else if g = 3 then [s.bus.badAnswers, s.bus.overruns, s.bus.passTimeouts]
  else if g = 4 then s.elements.toList.map (·.missedAnswers)
  else if g = 5 then s.lines.toList.map (·.ignoredStarts)
  else (s.console.get (Fin.ofNat 12 (g.val - 6))).counters.list

/-- READ COUNTERS (R175). -/
def State.readCounters (s : State) (index : Byte) : ReadAnswer :=
  readNeed (decodeIndex 18 index) .badIndex fun g => .ok ((s.counterGroup g).flatMap num16)

end Sys2Proof.Machine
end

