-- ==== Sys2Proof/Machine/Requests.lean ====
section
/-! DEFINITION. Trunk requests: what an accepted frame asks for, the frame that carries a request (chapter 11), and the form
checks of R167. The owners' checks are in the files of the blocks. -/

namespace Sys2Proof.Machine

/-- The tables a READ may name (chapter 11). -/
inductive ReadTable where
  | matchHeader
  | slot
  | station
  | schedule
  | profile
  | element
  | arenaLines
  | link
  | slotStatus
  | stationStatus
  | clockStatus
  | elementStatus
  | score
  | busStatus
  | counters
  deriving DecidableEq, Repr

/-- A WRITE of one of the writable tables, with its clock field, index and record as received. -/
inductive TableWrite where
  | matchHeader (clock index : Byte) (record : HeaderRecord)
  | slot (clock index : Byte) (record : SlotRecord)
  | station (clock index : Byte) (record : StationRecord)
  | schedule (clock index : Byte) (record : Tab 8 PhaseRecord)
  | profile (clock index : Byte) (record : ProfileRecord)
  | element (clock index : Byte) (record : ElementRecord)
  | arenaLines (clock index : Byte) (record : LineRecord)
  | link (clock index : Byte) (record : LinkRecord)
  deriving DecidableEq, Repr

/-- A COMMAND with its operands as received (R171). -/
inductive Command where
  | turnover (clock : Byte)
  | start (clock : Byte)
  | pause (clock : Byte)
  | resume (clock : Byte)
  | advance (clock : Byte)
  | abort (clock : Byte)
  | replay (clock : Byte)
  | clear (clock : Byte)
  | splitSet (value : Byte)
  | fieldStop (half : Byte)
  | stopClear (half : Byte)
  | override (slot value : Byte)
  | stationResume (line : Byte)
  | linkFlagClear (slot : Byte)
  | applyLink
  | busMode (mode period : Byte)
  | elementOutput (element output value : Byte)
  | claimReset (element : Byte)
  | captureClear (element sensor : Byte)
  | scoreAdjust (clock alliance : Byte) (delta : BitVec 16)
  | countersClear
  | arenaReset
  deriving DecidableEq, Repr

/-- A trunk request that has passed the form checks. -/
inductive Request where
  | write (w : TableWrite)
  | read (table : ReadTable) (clock bank index : Byte)
  | command (c : Command)
  | pass (address count expected : Byte) (bytes : List Byte)
  deriving DecidableEq, Repr

/-! ## Codes (chapter 11) -/

/-- Table codes. -/
def ReadTable.code : ReadTable → Byte
  | .matchHeader => 0x01
  | .slot => 0x02
  | .station => 0x03
  | .schedule => 0x04
  | .profile => 0x05
  | .element => 0x06
  | .arenaLines => 0x07
  | .link => 0x08
  | .slotStatus => 0x10
  | .stationStatus => 0x11
  | .clockStatus => 0x12
  | .elementStatus => 0x13
  | .score => 0x14
  | .busStatus => 0x15
  | .counters => 0x16

/-- Every table with its code. -/
def tableCodes : List ReadTable :=
  [.matchHeader, .slot, .station, .schedule, .profile, .element, .arenaLines, .link, .slotStatus, .stationStatus, .clockStatus,
    .elementStatus, .score, .busStatus, .counters]

/-- The table of a code. -/
def decodeTable (b : Byte) : Option ReadTable := tableCodes.find? fun t => t.code == b

/-- The length of the record of a writable table, none for a table that is read only. -/
def ReadTable.recordLength : ReadTable → Option Nat
  | .matchHeader => some 8
  | .slot => some 12
  | .station => some 5
  | .schedule => some 32
  | .profile => some 5
  | .element => some 21
  | .arenaLines => some 2
  | .link => some 5
  | _ => none

/-- The length of the operands of a command code, none for an unknown code. -/
def operandLength (code : Byte) : Option Nat :=
  if 0x01 ≤ code ∧ code ≤ 0x0B then some 1
  else if code = 0x10 then some 2
  else if code = 0x11 ∨ code = 0x12 then some 1
  else if code = 0x20 then some 0
  else if code = 0x21 then some 2
  else if code = 0x22 then some 3
  else if code = 0x23 then some 1
  else if code = 0x24 then some 2
  else if code = 0x25 then some 4
  else if code = 0x30 ∨ code = 0x31 then some 0
  else none

/-! ## The frame that carries a request -/

/-- One entry of a SCHEDULE record. -/
def phaseRecordBytes (r : PhaseRecord) : List Byte := r.kind :: bytes16 r.duration ++ [r.profile]

/-- The bytes of a WRITE body after its table code: clock, index, record. -/
def TableWrite.bytes : TableWrite → List Byte
  | .matchHeader clock index r =>
    [clock, index] ++ bytes16 r.number ++ bytes24 r.slots ++ bytes16 r.stations ++ [r.autoTurnover]
  | .slot clock index r =>
    [clock, index] ++ bytes32 r.kit ++ [r.station, r.selector, r.power, r.deadband] ++ bytes16 r.slew ++ bytes16 r.timeout
  | .station clock index r => [clock, index] ++ bytes16 r.team ++ [r.alliance] ++ bytes16 r.hold
  | .schedule clock index r => [clock, index] ++ r.toList.flatMap phaseRecordBytes
  | .profile clock index r => [clock, index, r.robotEnable, r.driveAdmit, r.buttons, r.scale, r.elementAdmit]
  | .element clock index r =>
    [clock, index, r.enabled, r.owner, r.credit, r.mask] ++ bytes16 r.holdLimit ++ [r.holdPoints]
      ++ r.sensors.toList.flatMap (fun x => [x.mode, x.points])
      ++ r.outputs.toList.flatMap (fun x => [x.mode, x.safe, x.pulse, x.period, x.duty])
  | .arenaLines clock index r => [clock, index, r.action, r.target]
  | .link clock index r => [clock, index, r.channel, r.rate, r.arena, r.period, r.join]

/-- The table a WRITE names. -/
def TableWrite.table : TableWrite → ReadTable
  | .matchHeader _ _ _ => .matchHeader
  | .slot _ _ _ => .slot
  | .station _ _ _ => .station
  | .schedule _ _ _ => .schedule
  | .profile _ _ _ => .profile
  | .element _ _ _ => .element
  | .arenaLines _ _ _ => .arenaLines
  | .link _ _ _ => .link

/-- The body of a COMMAND: its code and its operands. -/
def Command.bytes : Command → List Byte
  | .turnover clock => [0x01, clock]
  | .start clock => [0x02, clock]
  | .pause clock => [0x03, clock]
  | .resume clock => [0x04, clock]
  | .advance clock => [0x05, clock]
  | .abort clock => [0x06, clock]
  | .replay clock => [0x07, clock]
  | .clear clock => [0x08, clock]
  | .splitSet value => [0x09, value]
  | .fieldStop half => [0x0A, half]
  | .stopClear half => [0x0B, half]
  | .override slot value => [0x10, slot, value]
  | .stationResume line => [0x11, line]
  | .linkFlagClear slot => [0x12, slot]
  | .applyLink => [0x20]
  | .busMode mode period => [0x21, mode, period]
  | .elementOutput element output value => [0x22, element, output, value]
  | .claimReset element => [0x23, element]
  | .captureClear element sensor => [0x24, element, sensor]
  | .scoreAdjust clock alliance delta => [0x25, clock, alliance] ++ bytes16 delta
  | .countersClear => [0x30]
  | .arenaReset => [0x31]

/-- The frame that carries a request with a tag. -/
def Request.frame (tag : Byte) : Request → TrunkFrame
  | .write w => ⟨0x01, tag, w.table.code :: w.bytes⟩
  | .read table clock bank index => ⟨0x02, tag, [table.code, clock, bank, index]⟩
  | .command c => ⟨0x03, tag, c.bytes⟩
  | .pass address count expected bytes => ⟨0x04, tag, address :: count :: expected :: bytes⟩

/-! ## The rows that are requests -/

/-- The request that a row stands for, none for a row that is an event. -/
def rowRequest : Instr → Option Request
  | .countersClear _ => some (.command .countersClear)
  | .arenaReset _ => some (.command .arenaReset)
  | .writeMatchHeader _ clock index record => some (.write (.matchHeader clock index record))
  | .writeSlot _ clock index record => some (.write (.slot clock index record))
  | .writeStation _ clock index record => some (.write (.station clock index record))
  | .writeSchedule _ clock index record => some (.write (.schedule clock index record))
  | .writeProfile _ clock index record => some (.write (.profile clock index record))
  | .turnover _ clock => some (.command (.turnover clock))
  | .start _ clock => some (.command (.start clock))
  | .pause _ clock => some (.command (.pause clock))
  | .resume _ clock => some (.command (.resume clock))
  | .advance _ clock => some (.command (.advance clock))
  | .abort _ clock => some (.command (.abort clock))
  | .replay _ clock => some (.command (.replay clock))
  | .clear _ clock => some (.command (.clear clock))
  | .splitSet _ value => some (.command (.splitSet value))
  | .fieldStop _ half => some (.command (.fieldStop half))
  | .stopClear _ half => some (.command (.stopClear half))
  | .writeArenaLines _ clock index record => some (.write (.arenaLines clock index record))
  | .override _ slot value => some (.command (.override slot value))
  | .stationResume _ line => some (.command (.stationResume line))
  | .linkFlagClear _ slot => some (.command (.linkFlagClear slot))
  | .writeLink _ clock index record => some (.write (.link clock index record))
  | .applyLink _ => some (.command .applyLink)
  | .writeElement _ clock index record => some (.write (.element clock index record))
  | .elementOutput _ element output value => some (.command (.elementOutput element output value))
  | .busMode _ mode period => some (.command (.busMode mode period))
  | .pass _ address count expected bytes => some (.pass address count expected bytes)
  | .claimReset _ element => some (.command (.claimReset element))
  | .captureClear _ element sensor => some (.command (.captureClear element sensor))
  | .scoreAdjust _ clock alliance delta => some (.command (.scoreAdjust clock alliance delta))
  | .powerOnReset _ _ => none
  | .trunkByteReceived _ _ => none
  | .trunkGapTimeout => none
  | .trunkFrameSent => none
  | .tenthEvent _ => none
  | .phaseExpiry _ => none
  | .arenaLineRisingEdge _ => none
  | .arenaLineFallingEdge _ => none
  | .controlFrame => none
  | .ping => none
  | .silenceTimerExpiry _ => none
  | .consoleCharacterReceived _ _ _ => none
  | .gap _ => none
  | .breakStart _ => none
  | .breakEnd _ => none
  | .consoleFrameSent _ => none
  | .cycleBegin _ => none
  | .slotWindowBegin _ => none
  | .slotWindowEnd => none
  | .replyReceived _ _ _ _ _ _ => none
  | .joinReceived _ _ _ => none
  | .radioFrameDamaged _ _ => none
  | .livenessExpiry _ => none
  | .pulseExpiry _ _ => none
  | .blinkPeriodEnd _ _ => none
  | .sweepStart => none
  | .pollBegin => none
  | .pollEnd _ => none
  | .elementBusStrayBytes _ => none
  | .passEnd _ => none
  | .busResetWaitEnd => none
  | .holdTimerExpiry _ => none

/-! ## The form checks (R167) -/

/-- The byte of a body at a place. -/
def byteAt (body : List Byte) (n : Nat) : Byte := body.getD n 0

/-- The two-byte field of a body at a place. -/
def wordAt (body : List Byte) (n : Nat) : BitVec 16 := word16 (byteAt body n) (byteAt body (n + 1))

/-- A WRITE body of the right length read by its table's layout; `none` for a table that is read only. -/
def readWrite (table : ReadTable) (body : List Byte) : Option TableWrite :=
  let clock := byteAt body 1
  let index := byteAt body 2
  match table with
  | .matchHeader =>
    some (.matchHeader clock index
      { number := wordAt body 3, slots := word24 (byteAt body 5) (byteAt body 6) (byteAt body 7), stations := wordAt body 8,
        autoTurnover := byteAt body 10 })
  | .slot =>
    some (.slot clock index
      { kit := word32 (byteAt body 3) (byteAt body 4) (byteAt body 5) (byteAt body 6), station := byteAt body 7,
        selector := byteAt body 8, power := byteAt body 9, deadband := byteAt body 10, slew := wordAt body 11,
        timeout := wordAt body 13 })
  | .station => some (.station clock index { team := wordAt body 3, alliance := byteAt body 5, hold := wordAt body 6 })
  | .schedule =>
    some (.schedule clock index (.build fun j =>
      { kind := byteAt body (3 + 4 * j.val), duration := wordAt body (4 + 4 * j.val), profile := byteAt body (6 + 4 * j.val) }))
  | .profile =>
    some (.profile clock index
      { robotEnable := byteAt body 3, driveAdmit := byteAt body 4, buttons := byteAt body 5, scale := byteAt body 6,
        elementAdmit := byteAt body 7 })
  | .element =>
    some (.element clock index
      { enabled := byteAt body 3, owner := byteAt body 4, credit := byteAt body 5, mask := byteAt body 6,
        holdLimit := wordAt body 7, holdPoints := byteAt body 9,
        sensors := .build fun k => { mode := byteAt body (10 + 2 * k.val), points := byteAt body (11 + 2 * k.val) },
        outputs := .build fun k =>
          { mode := byteAt body (14 + 5 * k.val), safe := byteAt body (15 + 5 * k.val), pulse := byteAt body (16 + 5 * k.val),
            period := byteAt body (17 + 5 * k.val), duty := byteAt body (18 + 5 * k.val) } })
  | .arenaLines => some (.arenaLines clock index { action := byteAt body 3, target := byteAt body 4 })
  | .link =>
    some (.link clock index
      { channel := byteAt body 3, rate := byteAt body 4, arena := byteAt body 5, period := byteAt body 6, join := byteAt body 7 })
  | _ => none

/-- A COMMAND body of the right length read by its code. -/
def readCommand (code : Byte) (body : List Byte) : Option Command :=
  let a := byteAt body 1
  let b := byteAt body 2
  if code = 0x01 then some (.turnover a)
  else if code = 0x02 then some (.start a)
  else if code = 0x03 then some (.pause a)
  else if code = 0x04 then some (.resume a)
  else if code = 0x05 then some (.advance a)
  else if code = 0x06 then some (.abort a)
  else if code = 0x07 then some (.replay a)
  else if code = 0x08 then some (.clear a)
  else if code = 0x09 then some (.splitSet a)
  else if code = 0x0A then some (.fieldStop a)
  else if code = 0x0B then some (.stopClear a)
  else if code = 0x10 then some (.override a b)
  else if code = 0x11 then some (.stationResume a)
  else if code = 0x12 then some (.linkFlagClear a)
  else if code = 0x20 then some .applyLink
  else if code = 0x21 then some (.busMode a b)
  else if code = 0x22 then some (.elementOutput a b (byteAt body 3))
  else if code = 0x23 then some (.claimReset a)
  else if code = 0x24 then some (.captureClear a b)
  else if code = 0x25 then some (.scoreAdjust a b (wordAt body 3))
  else if code = 0x30 then some .countersClear
  else if code = 0x31 then some .arenaReset
  else none

/-- Checks 2 and 4 of R167 for a WRITE. A body too short to hold a table code names no known table (log entry 14). -/
def parseWrite (body : List Byte) : Except ResultCode Request :=
  match body.head?.bind decodeTable with
  | none => .error .badTable
  | some table =>
    match table.recordLength, readWrite table body with
    | some n, some w => if body.length = 3 + n then .ok (.write w) else .error .badFrame
    | _, _ => .error .badTable

/-- Checks 2 and 4 of R167 for a READ. -/
def parseRead (body : List Byte) : Except ResultCode Request :=
  match body.head?.bind decodeTable with
  | none => .error .badTable
  | some table => if body.length = 4 then .ok (.read table (byteAt body 1) (byteAt body 2) (byteAt body 3)) else .error .badFrame

/-- Checks 3 and 4 of R167 for a COMMAND. -/
def parseCommand (body : List Byte) : Except ResultCode Request :=
  match body with
  | [] => .error .badValue
  | code :: _ =>
    match operandLength code, readCommand code body with
    | some n, some c => if body.length = 1 + n then .ok (.command c) else .error .badFrame
    | _, _ => .error .badValue

/-- Check 4 of R167 for a PASS: three bytes more than the number of bytes to send that the frame declares. -/
def parsePass (body : List Byte) : Except ResultCode Request :=
  match body with
  | address :: count :: expected :: bytes =>
    if bytes.length = count.toNat then .ok (.pass address count expected bytes) else .error .badFrame
  | _ => .error .badFrame

/-- R167: the form checks of an accepted frame, in order. -/
def parseRequest (f : TrunkFrame) : Except ResultCode Request :=
  if f.kind = 0x01 then parseWrite f.body
  else if f.kind = 0x02 then parseRead f.body
  else if f.kind = 0x03 then parseCommand f.body
  else if f.kind = 0x04 then parsePass f.body
  else .error .badFrame

end Sys2Proof.Machine
end

