-- ==== Sys2Proof/Machine/Trunk.lean ====
section
/-! DEFINITION. The trunk port (chapter 10): reception, dispatch, the two operations that reach every block, the transmitter. -/

namespace Sys2Proof.Machine

/-! ## COUNTERS_CLEAR (R176) -/

/-- R176: every diagnostic counter of the device is 0. -/
def State.clearCounters (s : State) : State :=
  { s with
    trunk := { s.trunk with counters := .zero }
    console := s.console.update fun _ l => { l with counters := .zero }
    slots := s.slots.update fun _ x => { x with admitted := 0, discarded := 0 }
    stations := s.stations.update fun _ x => { x with unassigned := 0, noSlot := 0 }
    radio := { s.radio with counters := .zero }
    links := s.links.update fun _ x => { x with missed := 0 }
    elements := s.elements.update fun _ x => { x with missedAnswers := 0 }
    bus := { s.bus with badAnswers := 0, overruns := 0, passTimeouts := 0 }
    lines := s.lines.update fun _ x => { x with ignoredStarts := 0 } }

/-! ## ARENA_RESET (R178, R179) -/

/-- R96: a console line at ARENA_RESET; break-present and the measurement of the line go on. -/
def ConsoleLine.arenaReset (l : ConsoleLine) : ConsoleLine :=
  { ConsoleLine.reset with breakPresent := l.breakPresent, gapRaised := l.gapRaised }

/-- R164, R179: the trunk port at ARENA_RESET: the receiver keeps its state, a frame in transmission is completed, all else is
emptied. -/
def Trunk.arenaReset (t : Trunk) : Trunk :=
  { Trunk.reset with
    receiver := t.receiver
    wire := t.wire
    tx := match t.tx with
      | .report => .orphan
      | x => x }

/-- R178: what ARENA_RESET clears and keeps, before the samples. The pending link profile becomes active (R97). -/
def State.arenaCleared (s : State) : State :=
  { State.reset with
    tables := ⟨{ s.tables.a with active := .empty }, { s.tables.b with active := .empty }⟩
    split := s.split
    lines := s.lines.update fun _ x => { x with engaged := none, ignoredStarts := 0 }
    console := s.console.update fun _ l => l.arenaReset
    radio := { Radio.reset with
      pendingProfile := s.radio.pendingProfile, profile := s.radio.pendingProfile, ready := s.radio.ready
      looks := s.radio.looks, out := s.radio.out }
    entries := s.entries
    outputs := .build fun e => .build fun k => ((s.entries.get e).outputs.get k).mode.starting
    trunk := s.trunk.arenaReset
    pending := s.pending }

/-- R40, R178: the sample of one arena line: an asserted line is engaged with its configured action and target, a HOLD shows
in the line holds and a STOP latches. -/
def State.sampleLine (s : State) (n : Fin 4) : State :=
  let x := s.lines.get n
  if x.level then
    let engaged := (s.setLine n fun y => { y with engaged := some ⟨y.action, y.target⟩ }).deriveHolds
    if x.action = .stop then engaged.eachHalf x.target fun t h => t.latchStop h (.line n) else engaged
  else s

/-- R96, R178: the sample of one console line: a line in break latches its station's stop again. -/
def State.sampleConsole (s : State) (n : Fin 12) : State :=
  if (s.console.get n).breakPresent then s.latchStation n else s

/-- R178: the samples, arena lines first, each in ascending order. -/
def State.sampleAll (s : State) : State :=
  (List.finRange 12).foldl State.sampleConsole ((List.finRange 4).foldl State.sampleLine s)

/-- ARENA_RESET (R178, R179): cleared, the REPLY formed, the samples taken, and the first cycle begun with number 0 (R100; log
entry 4); the ready input is looked at for its beacon (R105; log entry 30). -/
def State.arenaReset (s : State) (tag : Byte) : State :=
  ((s.arenaCleared.answer tag .ok []).sampleAll).lookReady.beginCycle 0

/-! ## Dispatch (R168 to R172) -/

/-- The verdict on a taken WRITE (R169). -/
def TableWrite.verdict (s : State) : TableWrite → Verdict
  | .matchHeader clock index r => writeHeaderVerdict clock index r s
  | .slot clock index r => writeSlotVerdict clock index r s
  | .station clock index r => writeStationVerdict clock index r s
  | .schedule clock index r => writeScheduleVerdict clock index r s
  | .profile clock index r => writeProfileVerdict clock index r s
  | .element _ index r => writeElementVerdict index r s
  | .arenaLines _ index r => writeLinesVerdict index r
  | .link _ index r => writeLinkVerdict index r

/-- The answer to a READ (R170). -/
def State.readAnswer (s : State) (table : ReadTable) (clock bank index : Byte) : ReadAnswer :=
  match table with
  | .matchHeader => s.readHeader clock bank index
  | .slot => s.readSlot clock bank index
  | .station => s.readStation clock bank index
  | .schedule => s.readSchedule clock bank index
  | .profile => s.readProfile clock bank index
  | .element => s.readElement index
  | .arenaLines => s.readLine index
  | .link => s.readLink bank index
  | .slotStatus => s.readSlotStatus index
  | .stationStatus => s.readStationStatus index
  | .clockStatus => s.readClockStatus clock
  | .elementStatus => s.readElementStatus index
  | .score => s.readScore clock
  | .busStatus => s.readBusStatus index
  | .counters => s.readCounters index

/-- A READ is answered OK with its record, or with the code that refuses it and no data (R170). -/
def State.serveRead (s : State) (tag : Byte) (table : ReadTable) (clock bank index : Byte) : State :=
  match s.readAnswer table clock bank index with
  | .ok data => s.answer tag .ok data
  | .error code => s.answer tag code []

/-- A COMMAND at its owner (R171). -/
def State.serveCommand (s : State) (tag : Byte) : Command → State
  | .turnover clock => s.carryOut tag (turnoverVerdict clock s)
  | .start clock => s.carryOut tag (startVerdict clock s)
  | .pause clock => s.carryOut tag (pauseVerdict clock s)
  | .resume clock => s.carryOut tag (resumeVerdict clock s)
  | .advance clock => s.carryOut tag (advanceVerdict clock s)
  | .abort clock => s.carryOut tag (abortVerdict clock s)
  | .replay clock => s.carryOut tag (replayVerdict clock s)
  | .clear clock => s.carryOut tag (clearVerdict clock s)
  | .splitSet value => s.carryOut tag (splitSetVerdict value s)
  | .fieldStop half => s.carryOut tag (fieldStopVerdict half s)
  | .stopClear half => s.carryOut tag (stopClearVerdict half s)
  | .override slot value => s.carryOut tag (overrideVerdict slot value s)
  | .stationResume line => s.carryOut tag (stationResumeVerdict line s)
  | .linkFlagClear slot => s.carryOut tag (linkFlagClearVerdict slot)
  | .applyLink => s.carryOut tag (applyLinkVerdict s)
  | .busMode mode period => s.carryOut tag (busModeVerdict mode period)
  | .elementOutput element output value => s.carryOut tag (elementOutputVerdict element output value s)
  | .claimReset element => s.carryOut tag (claimResetVerdict element)
  | .captureClear element sensor => s.carryOut tag (captureClearVerdict element sensor)
  | .scoreAdjust clock alliance delta => s.carryOut tag (scoreAdjustVerdict clock alliance delta s)
  | .countersClear => s.carryOut tag (.take .ok State.clearCounters)
  | .arenaReset => s.arenaReset tag

/-- A request at its owner. -/
def State.serve (s : State) (tag : Byte) : Request → State
  | .write w => s.carryOut tag (w.verdict s)
  | .read table clock bank index => s.serveRead tag table clock bank index
  | .command c => s.serveCommand tag c
  | .pass address count expected bytes => s.servePass tag address count expected bytes

/-- The dispatch of a frame (R167, R168). -/
def State.dispatch (s : State) (f : TrunkFrame) : State :=
  match parseRequest f with
  | .ok r => s.serve f.tag r
  | .error code => s.answer f.tag code []

/-- R168: whether a frame at the head of the buffer may be dispatched: no REPLY formed by a dispatch waits, and for a PASS
frame no deferred PASS reply waits either. -/
def Trunk.mayDispatch (t : Trunk) (f : TrunkFrame) : Bool :=
  t.replies.all (·.deferred) && (decide (f.kind ≠ 0x04) || t.replies.isEmpty)

/-- R168: the frames of a buffer are dispatched in order, each while it stands at the head of the receive buffer and may be
dispatched; ARENA_RESET discards what stands behind it. -/
def State.dispatchFrames : List TrunkFrame → State → State
  | [], s => s
  | f :: rest, s =>
    if s.trunk.buffer.head? = some f ∧ s.trunk.mayDispatch f then
      State.dispatchFrames rest ((s.setTrunk fun t => { t with buffer := t.buffer.tail }).dispatch f)
    else s

/-- R168: everything in the receive buffer that may be dispatched is dispatched. -/
def State.pump (s : State) : State := State.dispatchFrames s.trunk.buffer s

/-- R166: a good frame joins the receive buffer, or is discarded and counted at two. -/
def Trunk.accept (t : Trunk) (f : TrunkFrame) : Trunk :=
  if t.buffer.length < 2 then
    { t with buffer := t.buffer ++ [f], counters := { t.counters with accepted := bump t.counters.accepted } }
  else { t with counters := { t.counters with overflows := bump t.counters.overflows } }

/-- A good frame is accepted and dispatched as soon as R168 lets it (log entry 5). -/
def State.acceptFrame (s : State) (f : TrunkFrame) : State := (s.setTrunk (·.accept f)).pump

/-- A whole undamaged frame of the field manager, as the rows for trunk requests bring it. A frame too long for the length
field is abandoned for its length (R165; log entry 20). -/
def State.submit (s : State) (tag : Byte) (r : Request) : State :=
  if (r.frame tag).body.length + 2 ≤ 255 then s.acceptFrame (r.frame tag)
  else s.setTrunk fun t => { t with counters := { t.counters with lengthErrors := bump t.counters.lengthErrors } }

/-! ## Reception (R165, R166) -/

/-- R166: a complete frame, given as the bytes after the sync byte, is judged. -/
def State.judgeFrame (s : State) (bytes : List Byte) (damaged : Bool) : State :=
  let body := bytes.take (bytes.length - 2)
  let idle := s.setTrunk fun t => { t with receiver := .hunting }
  if damaged || withCrc body ≠ bytes then
    idle.setTrunk fun t => { t with counters := { t.counters with checkFailures := bump t.counters.checkFailures } }
  else idle.acceptFrame { kind := byteAt body 2, tag := byteAt body 3, body := body.drop 4 }

/-- R165: a byte is taken into the frame in reception. -/
def State.takeTrunkByte (s : State) (bytes : List Byte) (damaged : Bool) : State :=
  if bytes.length = 2 then
    if 2 ≤ (wordAt bytes 0).toNat ∧ (wordAt bytes 0).toNat ≤ 255 then
      s.setTrunk fun t => { t with receiver := .receiving bytes damaged }
    else
      s.setTrunk fun t =>
        { t with receiver := .hunting, counters := { t.counters with lengthErrors := bump t.counters.lengthErrors } }
  else if bytes.length = (wordAt bytes 0).toNat + 4 then s.judgeFrame bytes damaged
  else s.setTrunk fun t => { t with receiver := .receiving bytes damaged }

/-- TRUNK_BYTE_RECEIVED (R165). -/
def trunkByteReceived (b : Byte) (stopBad : Bool) (s : State) : State :=
  match s.trunk.receiver with
  | .hunting => if b = 0xA5 ∧ stopBad = false then s.setTrunk fun t => { t with receiver := .receiving [] false } else s
  | .receiving bytes damaged => s.takeTrunkByte (bytes ++ [b]) (damaged || stopBad)

/-- TRUNK_GAP_TIMEOUT (R165): a pause between frames has no effect. -/
def trunkGapTimeout (s : State) : State :=
  match s.trunk.receiver with
  | .hunting => s
  | .receiving _ _ =>
    s.setTrunk fun t =>
      { t with receiver := .hunting, counters := { t.counters with gapTimeouts := bump t.counters.gapTimeouts } }

/-! ## Transmission (R173) -/

/-- R173, R174: the frame in transmission ends; a report record leaves the queue; the next frame is chosen. -/
def Trunk.sent (t : Trunk) : Trunk :=
  ({ t with tx := .idle, wire := [], reports := if t.tx = .report then t.reports.tail else t.reports } : Trunk).choose

/-- TRUNK_FRAME_SENT (R173): the next frame is chosen, and a REPLY that begins lets dispatch go on (R168). -/
def trunkFrameSent (s : State) : State :=
  if s.trunk.tx = .idle then s else (s.setTrunk (·.sent)).pump

/-- PASS_END (R134, R172): the deferred REPLY joins the waiting replies. -/
def passEnd (answer : Option BusFrame) (s : State) : State :=
  match s.bus.inFlight with
  | .pass _ _ _ => (s.endPass answer).pump
  | _ => s

end Sys2Proof.Machine
end

