-- ==== Sys2Proof/Machine/Resets.lean ====
section
/-! DEFINITION. Power-on reset (R177) and the effects of time: what one millisecond of the reference clock does. -/

namespace Sys2Proof.Machine

/-! ## Power-on reset (R177, R40, R95, R100) -/

/-- R40: an arena line at the end of power-on reset; an asserted one is engaged with action NONE. -/
def ArenaLine.powerOn (asserted : Bool) : ArenaLine :=
  if asserted then { ArenaLine.reset with level := true, engaged := some ⟨.none, .a⟩ } else .reset

/-- POWER_ON_RESET (R177): every block at its power-on values, the arena lines sampled, the first cycle begun with number 0. The
model's own queue of commands is kept (log entry 24). -/
def powerOnReset (levels : BitVec 4) (ready : Bool) (s : State) : State :=
  ({ State.reset with
      lines := .build fun n => .powerOn (levels.getLsb n)
      radio := { Radio.reset with ready := ready, looks := s.radio.looks, out := [] }
      pending := s.pending } : State).beginCycle 0

/-! ## One millisecond (log entries 1 and 2) -/

/-- R35: a RUNNING clock's tenth position advances, and a completed tenth is a tenth event. -/
def tickClock (h : Half) (s : State) : State :=
  if (s.clocks.get h).state = .running then
    if (s.clocks.get h).tenthPos + 1 < 100 then s.setClock h fun c => { c with tenthPos := c.tenthPos + 1 } else tenthEvent h s
  else s

/-- R61: a running silence timer counts down and expires at 0. -/
def tickSilence (s : State) (n : Fin 12) : State :=
  match (s.stations.get n).silence with
  | none => s
  | some left => if left ≤ 1 then silenceTimerExpiry n s else s.setStation n fun x => { x with silence := some (left - 1) }

/-- R113: a running liveness timer counts down and expires at 0. -/
def tickLiveness (s : State) (i : Fin 24) : State :=
  match (s.links.get i).liveness with
  | none => s
  | some left => if left ≤ 1 then livenessExpiry i s else s.setLink i fun x => { x with liveness := some (left - 1) }

/-- R123: an ACTIVE pulse counts down, a RUNNING blink advances and wraps at its period. -/
def OutputState.tick (c : OutputConfig) : OutputState → OutputState
  | .pulse (some left) => if left ≤ 1 then .pulse none else .pulse (some (left - 1))
  | .blink (some position) => if position + 1 < c.period * 10 then .blink (some (position + 1)) else .blink (some 0)
  | x => x

/-- R123: every output. -/
def tickOutputs (s : State) : State :=
  { s with outputs := s.outputs.update fun e t => t.update fun k x => x.tick ((s.entries.get e).outputs.get k) }

/-- R101 to R104: a millisecond into the cycle the next part begins: the first or next slot window, the join window, the rest,
and at the cycle's length the next cycle. The ready input is looked at for each beacon and each window (R105; log entry 30). -/
def tickRadio (s : State) : State :=
  let closed := s.closeWindow
  let position := s.radio.position + 1
  let moved := closed.setRadio fun r => { r with position := position }
  if s.radio.length ≤ position then moved.lookReady.nextCycle
  else
    match moved.radio.part with
    | .beacon => if moved.radio.toCome = [] then moved.setRadio fun r => { r with part := r.profile.afterWindows } else moved.lookReady.openWindow
    | .between => moved.lookReady.openWindow
    | .join => if moved.radio.windows.length + 3 ≤ position then moved.setRadio fun r => { r with part := .rest } else moved
    | .window _ _ _ => moved
    | .rest => moved

/-- R127, R135: the reset wait, shorter than a millisecond, ends; in AUTO the time since the last sweep started advances, and a
sweep starts, or waits for the one in progress, when the period has passed. -/
def tickBus (s : State) : State :=
  if s.bus.resetWait then busResetWaitEnd s
  else if s.bus.actual = .auto then
    let elapsed := min (s.bus.sinceStart + 1) 50
    let passed := s.setBus fun b => { b with elapsed := elapsed }
    if s.bus.period ≤ elapsed then sweepStart passed else passed
  else s

/-- One millisecond of the reference clock: clock A and B, silence timers, liveness timers, outputs, the radio cycle, the bus. No
waiting console frame is taken: R56 gives no time of service, and only the rows CONTROL_FRAME and PING bring it (log entry 2). -/
def tick (s : State) : State :=
  let clocks := tickClock .b (tickClock .a s)
  let silence := (List.finRange 12).foldl tickSilence clocks
  let liveness := (List.finRange 24).foldl tickLiveness silence
  tickBus (tickRadio (tickOutputs liveness))

end Sys2Proof.Machine
end

