-- ==== Sys2Proof/Machine/Meanings.lean ====
section
/-! DEFINITION. The meaning of every command: one definition for each row of spec/opcode_table.json, over the operations of the
blocks. A row that is a trunk request is a whole good frame of the field manager: it is accepted and dispatched as R166 and
R168 state (log entry 5). No meaning stops: every one answers a next state. -/

namespace Sys2Proof.Machine

/-- POWER_ON_RESET (R177). -/
def execPowerOnReset (levels : BitVec 4) (ready : Bool) (s : State) : Host.Outcome State Fault Refusal :=
  .next (powerOnReset levels ready s)

/-- ARENA_RESET (R178). -/
def execArenaReset (tag : Byte) (s : State) : Host.Outcome State Fault Refusal := .next (s.submit tag (.command .arenaReset))

/-- COUNTERS_CLEAR (R176). -/
def execCountersClear (tag : Byte) (s : State) : Host.Outcome State Fault Refusal :=
  .next (s.submit tag (.command .countersClear))

/-- TRUNK_BYTE_RECEIVED (R165). -/
def execTrunkByteReceived (byte : Byte) (stopBad : Bool) (s : State) : Host.Outcome State Fault Refusal :=
  .next (trunkByteReceived byte stopBad s)

/-- TRUNK_GAP_TIMEOUT (R165). -/
def execTrunkGapTimeout (s : State) : Host.Outcome State Fault Refusal := .next (trunkGapTimeout s)

/-- TRUNK_FRAME_SENT (R173). -/
def execTrunkFrameSent (s : State) : Host.Outcome State Fault Refusal := .next (trunkFrameSent s)

/-- WRITE_MATCH_HEADER (R8). -/
def execWriteMatchHeader (tag clock index : Byte) (record : HeaderRecord) (s : State) : Host.Outcome State Fault Refusal :=
  .next (s.submit tag (.write (.matchHeader clock index record)))

/-- WRITE_SLOT (R11). -/
def execWriteSlot (tag clock index : Byte) (record : SlotRecord) (s : State) : Host.Outcome State Fault Refusal :=
  .next (s.submit tag (.write (.slot clock index record)))

/-- WRITE_STATION (R9). -/
def execWriteStation (tag clock index : Byte) (record : StationRecord) (s : State) : Host.Outcome State Fault Refusal :=
  .next (s.submit tag (.write (.station clock index record)))

/-- WRITE_SCHEDULE (R5). -/
def execWriteSchedule (tag clock index : Byte) (record : Tab 8 PhaseRecord) (s : State) : Host.Outcome State Fault Refusal :=
  .next (s.submit tag (.write (.schedule clock index record)))

/-- WRITE_PROFILE (R9). -/
def execWriteProfile (tag clock index : Byte) (record : ProfileRecord) (s : State) : Host.Outcome State Fault Refusal :=
  .next (s.submit tag (.write (.profile clock index record)))

/-- TURNOVER (R16). -/
def execTurnover (tag clock : Byte) (s : State) : Host.Outcome State Fault Refusal :=
  .next (s.submit tag (.command (.turnover clock)))

/-- START (R28). -/
def execStart (tag clock : Byte) (s : State) : Host.Outcome State Fault Refusal :=
  .next (s.submit tag (.command (.start clock)))

/-- PAUSE (R29). -/
def execPause (tag clock : Byte) (s : State) : Host.Outcome State Fault Refusal :=
  .next (s.submit tag (.command (.pause clock)))

/-- RESUME (R30). -/
def execResume (tag clock : Byte) (s : State) : Host.Outcome State Fault Refusal :=
  .next (s.submit tag (.command (.resume clock)))

/-- ADVANCE (R31). -/
def execAdvance (tag clock : Byte) (s : State) : Host.Outcome State Fault Refusal :=
  .next (s.submit tag (.command (.advance clock)))

/-- ABORT (R32). -/
def execAbort (tag clock : Byte) (s : State) : Host.Outcome State Fault Refusal :=
  .next (s.submit tag (.command (.abort clock)))

/-- REPLAY (R33). -/
def execReplay (tag clock : Byte) (s : State) : Host.Outcome State Fault Refusal :=
  .next (s.submit tag (.command (.replay clock)))

/-- CLEAR (R34). -/
def execClear (tag clock : Byte) (s : State) : Host.Outcome State Fault Refusal :=
  .next (s.submit tag (.command (.clear clock)))

/-- SPLIT_SET (R38). -/
def execSplitSet (tag value : Byte) (s : State) : Host.Outcome State Fault Refusal :=
  .next (s.submit tag (.command (.splitSet value)))

/-- FIELD_STOP (R44). -/
def execFieldStop (tag half : Byte) (s : State) : Host.Outcome State Fault Refusal :=
  .next (s.submit tag (.command (.fieldStop half)))

/-- STOP_CLEAR (R45). -/
def execStopClear (tag half : Byte) (s : State) : Host.Outcome State Fault Refusal :=
  .next (s.submit tag (.command (.stopClear half)))

/-- TENTH_EVENT (R35). -/
def execTenthEvent (clock : Half) (s : State) : Host.Outcome State Fault Refusal := .next (tenthEvent clock s)

/-- PHASE_EXPIRY (R36). -/
def execPhaseExpiry (clock : Half) (s : State) : Host.Outcome State Fault Refusal := .next (phaseExpiry clock s)

/-- ARENA_LINE_RISING_EDGE (R40). -/
def execArenaLineRisingEdge (line : Fin 4) (s : State) : Host.Outcome State Fault Refusal := .next (arenaLineRisingEdge line s)

/-- ARENA_LINE_FALLING_EDGE (R42). -/
def execArenaLineFallingEdge (line : Fin 4) (s : State) : Host.Outcome State Fault Refusal :=
  .next (arenaLineFallingEdge line s)

/-- WRITE_ARENA_LINES (R40). -/
def execWriteArenaLines (tag clock index : Byte) (record : LineRecord) (s : State) : Host.Outcome State Fault Refusal :=
  .next (s.submit tag (.write (.arenaLines clock index record)))

/-- OVERRIDE (R51). -/
def execOverride (tag slot value : Byte) (s : State) : Host.Outcome State Fault Refusal :=
  .next (s.submit tag (.command (.override slot value)))

/-- STATION_RESUME (R54). -/
def execStationResume (tag line : Byte) (s : State) : Host.Outcome State Fault Refusal :=
  .next (s.submit tag (.command (.stationResume line)))

/-- LINK_FLAG_CLEAR (R55). -/
def execLinkFlagClear (tag slot : Byte) (s : State) : Host.Outcome State Fault Refusal :=
  .next (s.submit tag (.command (.linkFlagClear slot)))

/-- CONTROL_FRAME (R57). -/
def execControlFrame (s : State) : Host.Outcome State Fault Refusal := .next (controlFrame s)

/-- PING (R60). -/
def execPing (s : State) : Host.Outcome State Fault Refusal := .next (pingEvent s)

/-- SILENCE_TIMER_EXPIRY (R61). -/
def execSilenceTimerExpiry (station : Fin 12) (s : State) : Host.Outcome State Fault Refusal :=
  .next (silenceTimerExpiry station s)

/-- CONSOLE_CHARACTER_RECEIVED (R82). -/
def execConsoleCharacterReceived (line : Fin 12) (byte : Byte) (framing : Bool)
    (s : State) : Host.Outcome State Fault Refusal :=
  .next (consoleCharacterReceived line byte framing s)

/-- GAP (R84). -/
def execGap (line : Fin 12) (s : State) : Host.Outcome State Fault Refusal := .next (gapEvent line s)

/-- BREAK_START (R85). -/
def execBreakStart (line : Fin 12) (s : State) : Host.Outcome State Fault Refusal := .next (breakStart line s)

/-- BREAK_END (R85). -/
def execBreakEnd (line : Fin 12) (s : State) : Host.Outcome State Fault Refusal := .next (breakEnd line s)

/-- CONSOLE_FRAME_SENT (R92). -/
def execConsoleFrameSent (line : Fin 12) (s : State) : Host.Outcome State Fault Refusal := .next (consoleFrameSent line s)

/-- WRITE_LINK (R98). -/
def execWriteLink (tag clock index : Byte) (record : LinkRecord) (s : State) : Host.Outcome State Fault Refusal :=
  .next (s.submit tag (.write (.link clock index record)))

/-- APPLY_LINK (R99). -/
def execApplyLink (tag : Byte) (s : State) : Host.Outcome State Fault Refusal := .next (s.submit tag (.command .applyLink))

/-- CYCLE_BEGIN (R101). -/
def execCycleBegin (ready : Bool) (s : State) : Host.Outcome State Fault Refusal := .next (cycleBegin ready s)

/-- SLOT_WINDOW_BEGIN (R103). -/
def execSlotWindowBegin (ready : Bool) (s : State) : Host.Outcome State Fault Refusal := .next (slotWindowBegin ready s)

/-- SLOT_WINDOW_END (R111). -/
def execSlotWindowEnd (s : State) : Host.Outcome State Fault Refusal := .next (slotWindowEnd s)

/-- REPLY_RECEIVED (R112). -/
def execReplyReceived (arena slot : Byte) (kit : BitVec 32) (battery : BitVec 16) (status : Byte) (payload : List Byte)
    (s : State) : Host.Outcome State Fault Refusal :=
  .next (replyReceived arena slot kit battery status payload s)

/-- JOIN_RECEIVED (R107). -/
def execJoinReceived (arena : Byte) (kit : BitVec 32) (kitClass : Byte) (s : State) : Host.Outcome State Fault Refusal :=
  .next (joinReceived arena kit kitClass s)

/-- RADIO_FRAME_DAMAGED (R181). -/
def execRadioFrameDamaged (whole : Bool) (bytes : List Byte) (s : State) : Host.Outcome State Fault Refusal :=
  .next (radioFrameDamaged whole bytes s)

/-- LIVENESS_EXPIRY (R113). -/
def execLivenessExpiry (slot : Fin 24) (s : State) : Host.Outcome State Fault Refusal := .next (livenessExpiry slot s)

/-- WRITE_ELEMENT (R118). -/
def execWriteElement (tag clock index : Byte) (record : ElementRecord) (s : State) : Host.Outcome State Fault Refusal :=
  .next (s.submit tag (.write (.element clock index record)))

/-- ELEMENT_OUTPUT (R125). -/
def execElementOutput (tag element output value : Byte) (s : State) : Host.Outcome State Fault Refusal :=
  .next (s.submit tag (.command (.elementOutput element output value)))

/-- PULSE_EXPIRY (R123). -/
def execPulseExpiry (element : Fin 32) (output : Fin 2) (s : State) : Host.Outcome State Fault Refusal :=
  .next (pulseExpiry element output s)

/-- BLINK_PERIOD_END (R123). -/
def execBlinkPeriodEnd (element : Fin 32) (output : Fin 2) (s : State) : Host.Outcome State Fault Refusal :=
  .next (blinkPeriodEnd element output s)

/-- BUS_MODE (R132). -/
def execBusMode (tag mode period : Byte) (s : State) : Host.Outcome State Fault Refusal :=
  .next (s.submit tag (.command (.busMode mode period)))

/-- SWEEP_START (R127). -/
def execSweepStart (s : State) : Host.Outcome State Fault Refusal := .next (sweepStart s)

/-- POLL_BEGIN (R128). -/
def execPollBegin (s : State) : Host.Outcome State Fault Refusal := .next (pollBegin s)

/-- POLL_END (R128). -/
def execPollEnd (answer : Option BusFrame) (s : State) : Host.Outcome State Fault Refusal := .next (pollEnd answer s)

/-- ELEMENT_BUS_STRAY_BYTES (R128). -/
def execElementBusStrayBytes (_bytes : List Byte) (s : State) : Host.Outcome State Fault Refusal := .next (strayBytes s)

/-- PASS (R133). -/
def execPass (tag address count expected : Byte) (bytes : List Byte) (s : State) : Host.Outcome State Fault Refusal :=
  .next (s.submit tag (.pass address count expected bytes))

/-- PASS_END (R134). -/
def execPassEnd (answer : Option BusFrame) (s : State) : Host.Outcome State Fault Refusal := .next (passEnd answer s)

/-- BUS_RESET_WAIT_END (R135). -/
def execBusResetWaitEnd (s : State) : Host.Outcome State Fault Refusal := .next (busResetWaitEnd s)

/-- HOLD_TIMER_EXPIRY (R144). -/
def execHoldTimerExpiry (element : Fin 32) (s : State) : Host.Outcome State Fault Refusal := .next (holdTimerExpiry element s)

/-- CLAIM_RESET (R151). -/
def execClaimReset (tag element : Byte) (s : State) : Host.Outcome State Fault Refusal :=
  .next (s.submit tag (.command (.claimReset element)))

/-- CAPTURE_CLEAR (R157). -/
def execCaptureClear (tag element sensor : Byte) (s : State) : Host.Outcome State Fault Refusal :=
  .next (s.submit tag (.command (.captureClear element sensor)))

/-- SCORE_ADJUST (R160). -/
def execScoreAdjust (tag clock alliance : Byte) (delta : BitVec 16) (s : State) : Host.Outcome State Fault Refusal :=
  .next (s.submit tag (.command (.scoreAdjust clock alliance delta)))

end Sys2Proof.Machine
end

