-- ==== Sys2Proof/Machine/Dispatch.lean ====
section
/-! DEFINITION. One arm for each command. -/

namespace Sys2Proof.Machine

def exec (i : Instr) (s : State) : Host.Outcome State Fault Refusal :=
  match i with
  | .powerOnReset levels ready => Sys2Proof.Machine.execPowerOnReset levels ready s
  | .arenaReset tag => Sys2Proof.Machine.execArenaReset tag s
  | .countersClear tag => Sys2Proof.Machine.execCountersClear tag s
  | .trunkByteReceived byte stopBad => Sys2Proof.Machine.execTrunkByteReceived byte stopBad s
  | .trunkGapTimeout => Sys2Proof.Machine.execTrunkGapTimeout s
  | .trunkFrameSent => Sys2Proof.Machine.execTrunkFrameSent s
  | .writeMatchHeader tag clock index record => Sys2Proof.Machine.execWriteMatchHeader tag clock index record s
  | .writeSlot tag clock index record => Sys2Proof.Machine.execWriteSlot tag clock index record s
  | .writeStation tag clock index record => Sys2Proof.Machine.execWriteStation tag clock index record s
  | .writeSchedule tag clock index record => Sys2Proof.Machine.execWriteSchedule tag clock index record s
  | .writeProfile tag clock index record => Sys2Proof.Machine.execWriteProfile tag clock index record s
  | .turnover tag clock => Sys2Proof.Machine.execTurnover tag clock s
  | .start tag clock => Sys2Proof.Machine.execStart tag clock s
  | .pause tag clock => Sys2Proof.Machine.execPause tag clock s
  | .resume tag clock => Sys2Proof.Machine.execResume tag clock s
  | .advance tag clock => Sys2Proof.Machine.execAdvance tag clock s
  | .abort tag clock => Sys2Proof.Machine.execAbort tag clock s
  | .replay tag clock => Sys2Proof.Machine.execReplay tag clock s
  | .clear tag clock => Sys2Proof.Machine.execClear tag clock s
  | .splitSet tag value => Sys2Proof.Machine.execSplitSet tag value s
  | .fieldStop tag half => Sys2Proof.Machine.execFieldStop tag half s
  | .stopClear tag half => Sys2Proof.Machine.execStopClear tag half s
  | .tenthEvent clock => Sys2Proof.Machine.execTenthEvent clock s
  | .phaseExpiry clock => Sys2Proof.Machine.execPhaseExpiry clock s
  | .arenaLineRisingEdge line => Sys2Proof.Machine.execArenaLineRisingEdge line s
  | .arenaLineFallingEdge line => Sys2Proof.Machine.execArenaLineFallingEdge line s
  | .writeArenaLines tag clock index record => Sys2Proof.Machine.execWriteArenaLines tag clock index record s
  | .override tag slot value => Sys2Proof.Machine.execOverride tag slot value s
  | .stationResume tag line => Sys2Proof.Machine.execStationResume tag line s
  | .linkFlagClear tag slot => Sys2Proof.Machine.execLinkFlagClear tag slot s
  | .controlFrame => Sys2Proof.Machine.execControlFrame s
  | .ping => Sys2Proof.Machine.execPing s
  | .silenceTimerExpiry station => Sys2Proof.Machine.execSilenceTimerExpiry station s
  | .consoleCharacterReceived line byte framing => Sys2Proof.Machine.execConsoleCharacterReceived line byte framing s
  | .gap line => Sys2Proof.Machine.execGap line s
  | .breakStart line => Sys2Proof.Machine.execBreakStart line s
  | .breakEnd line => Sys2Proof.Machine.execBreakEnd line s
  | .consoleFrameSent line => Sys2Proof.Machine.execConsoleFrameSent line s
  | .writeLink tag clock index record => Sys2Proof.Machine.execWriteLink tag clock index record s
  | .applyLink tag => Sys2Proof.Machine.execApplyLink tag s
  | .cycleBegin ready => Sys2Proof.Machine.execCycleBegin ready s
  | .slotWindowBegin ready => Sys2Proof.Machine.execSlotWindowBegin ready s
  | .slotWindowEnd => Sys2Proof.Machine.execSlotWindowEnd s
  | .replyReceived arena slot kit battery status payload => Sys2Proof.Machine.execReplyReceived arena slot kit battery status payload s
  | .joinReceived arena kit kitClass => Sys2Proof.Machine.execJoinReceived arena kit kitClass s
  | .radioFrameDamaged whole bytes => Sys2Proof.Machine.execRadioFrameDamaged whole bytes s
  | .livenessExpiry slot => Sys2Proof.Machine.execLivenessExpiry slot s
  | .writeElement tag clock index record => Sys2Proof.Machine.execWriteElement tag clock index record s
  | .elementOutput tag element output value => Sys2Proof.Machine.execElementOutput tag element output value s
  | .pulseExpiry element output => Sys2Proof.Machine.execPulseExpiry element output s
  | .blinkPeriodEnd element output => Sys2Proof.Machine.execBlinkPeriodEnd element output s
  | .busMode tag mode period => Sys2Proof.Machine.execBusMode tag mode period s
  | .sweepStart => Sys2Proof.Machine.execSweepStart s
  | .pollBegin => Sys2Proof.Machine.execPollBegin s
  | .pollEnd answer => Sys2Proof.Machine.execPollEnd answer s
  | .elementBusStrayBytes bytes => Sys2Proof.Machine.execElementBusStrayBytes bytes s
  | .pass tag address count expected bytes => Sys2Proof.Machine.execPass tag address count expected bytes s
  | .passEnd answer => Sys2Proof.Machine.execPassEnd answer s
  | .busResetWaitEnd => Sys2Proof.Machine.execBusResetWaitEnd s
  | .holdTimerExpiry element => Sys2Proof.Machine.execHoldTimerExpiry element s
  | .claimReset tag element => Sys2Proof.Machine.execClaimReset tag element s
  | .captureClear tag element sensor => Sys2Proof.Machine.execCaptureClear tag element sensor s
  | .scoreAdjust tag clock alliance delta => Sys2Proof.Machine.execScoreAdjust tag clock alliance delta s

end Sys2Proof.Machine
end

