-- ==== Sys2Proof/WellFormed.lean ====
section
/-! DEFINITION. Which commands can reach the device at all. Most operands are in range by their types; what is left is the
number of bytes a frame can hold. -/

namespace Sys2Proof

/-- A command that can occur: the body of a PASS request fits a trunk frame (a length of at most 255 less kind, tag and three
fields, R165, R167), the payload of a REPLY fits its one-byte count (chapter 11), and a frame on the element bus begins with a
byte (R182). -/
def Instr.wellFormed : Instr → Bool
  | .pass _ _ _ _ bytes => bytes.length ≤ 250
  | .replyReceived _ _ _ _ _ payload => payload.length ≤ 255
  | .pollEnd (some f) => !f.bytes.isEmpty
  | .passEnd (some f) => !f.bytes.isEmpty
  | .elementBusStrayBytes bytes => !bytes.isEmpty
  | _ => true

end Sys2Proof
end

