-- ==== Sys2Proof/Safety.lean ====
section
/-! DEFINITION. What the statements speak of: a trunk port that takes the next request at once, runs of several commands,
schedules, the placing of frames on a console line, element requests, and the invariants of a safe run. -/

namespace Sys2Proof.Machine

/-! ## The trunk port around a request -/

/-- R168: the trunk port dispatches the next frame it accepts at once: its receive buffer is empty, and no REPLY formed by a
dispatch waits. -/
def State.Ready (s : State) : Prop := s.trunk.buffer = [] ∧ s.trunk.replies.all (·.deferred) = true

/-- R166: the state with one more frame counted as accepted. -/
def State.counted (s : State) : State :=
  s.setTrunk fun t => { t with counters := { t.counters with accepted := bump t.counters.accepted } }

/-- The state after a request was accepted and its REPLY formed with a code and no data; the request's effect is not in it. -/
def State.replied (s : State) (tag : Byte) (code : ResultCode) : State := s.counted.answer tag code []

/-! ## Runs -/

/-- The commands of a list carried out one after the other. -/
def execAll : List Instr → State → Host.Outcome State Fault Refusal
  | [], s => .next s
  | c :: rest, s =>
    match exec c s with
    | .next t => execAll rest t
    | .fault r => .fault r
    | .refused r => .refused r

/-! ## Schedules (R36) -/

/-- R36: the entry that becomes the phase in force when the entries from an index on are looked at: the first of nonzero
duration, with no entry of kind NONE before it. -/
def NextPhase (schedule : Tab 8 PhaseEntry) (start : Nat) (j : Fin 8) : Prop :=
  start ≤ j.val ∧ (schedule.get j).kind ≠ .none ∧ (schedule.get j).duration ≠ 0
    ∧ ∀ i : Fin 8, start ≤ i.val → i < j → (schedule.get i).kind ≠ .none ∧ (schedule.get i).duration = 0

/-- R36: no entry from an index on becomes the phase in force, so the match ends. -/
def NoPhase (schedule : Tab 8 PhaseEntry) (start : Nat) : Prop := ∀ j, ¬ NextPhase schedule start j

/-! ## Console transmit queues (R92 to R94) -/

/-- A TELEMETRY frame. -/
def ConsoleOut.isTelemetry : ConsoleOut → Bool
  | .telemetry _ _ _ _ => true
  | _ => false

/-- A TELEMETRY frame for a robot selector. -/
def ConsoleOut.isTelemetryOf (k : Fin 2) : ConsoleOut → Bool
  | .telemetry j _ _ _ => decide (j = k)
  | _ => false

/-- R92: a frame joins the queue of a line at its tail, and begins at once on an empty queue. -/
def JoinsTail (l l' : ConsoleLine) (f : ConsoleOut) : Prop :=
  l'.queue = l.queue ++ [f] ∧ l'.wire = if l.queue = [] then f.bytes else l.wire

/-- R94: how a line `l` that is handed a reply stands after it, in queue, wire and the two counters concerned. The first frame
of the queue is in transmission; the first TELEMETRY frame behind it is the oldest that has not begun. -/
def ReplyPlaced (l l' : ConsoleLine) (f : ConsoleOut) : Prop :=
  (l.queue.length < 4 → JoinsTail l l' f ∧ l'.counters.telemetryDropped = l.counters.telemetryDropped
    ∧ l'.counters.replyLosses = l.counters.replyLosses) ∧
  (∀ first before x after, 4 ≤ l.queue.length → l.queue = first :: before ++ x :: after → x.isTelemetry = true →
    (∀ y ∈ before, y.isTelemetry = false) →
    l'.queue = first :: before ++ after ++ [f] ∧ l'.wire = l.wire
      ∧ l'.counters.telemetryDropped = bump l.counters.telemetryDropped
      ∧ l'.counters.replyLosses = l.counters.replyLosses) ∧
  (4 ≤ l.queue.length → (∀ y ∈ l.queue.tail, y.isTelemetry = false) →
    l'.queue = l.queue ∧ l'.wire = l.wire ∧ l'.counters.telemetryDropped = l.counters.telemetryDropped
      ∧ l'.counters.replyLosses = bump l.counters.replyLosses)

/-- R93: how a line `l` that is handed a TELEMETRY frame for a selector stands after it. -/
def TelemetryPlaced (l l' : ConsoleLine) (k : Fin 2) (f : ConsoleOut) : Prop :=
  (∀ first before x after, l.queue = first :: before ++ x :: after → x.isTelemetryOf k = true →
    (∀ y ∈ before, y.isTelemetryOf k = false) → l' = { l with queue := first :: before ++ f :: after }) ∧
  ((∀ y ∈ l.queue.tail, y.isTelemetryOf k = false) → l.queue.length < 4 →
    JoinsTail l l' f ∧ l' = { l with queue := l'.queue, wire := l'.wire }) ∧
  ((∀ y ∈ l.queue.tail, y.isTelemetryOf k = false) → 4 ≤ l.queue.length →
    l' = { l with counters := { l.counters with telemetryDropped := bump l.counters.telemetryDropped } })

/-! ## Element requests, outputs and flushes (R122, R138, R146, R158) -/

/-- R56, R57, R59: the frame served next is a CONTROL frame of a present station that carries an element request. -/
def State.Requests (s : State) (n : Fin 12) (f : ControlFrame) (r : ElementRequest) : Prop :=
  s.nextLine = some n ∧ (s.console.get n).assembler = .waiting (.control f) ∧ f.request = some r ∧ (s.stationEntry n).team ≠ 0

/-- R138, check 5: the element's clock is RUNNING in a phase that admits element requests and is in the element's mask. -/
def State.PhaseAdmits (s : State) (e : Fin 32) : Prop :=
  let h := s.elementHalf e
  let p := (s.active h).schedule.get (s.clocks.get h).phase
  (s.clocks.get h).state = .running ∧ ((s.active h).profiles.get p.profile).elementAdmit = true
    ∧ phaseBit (s.entries.get e).mask p.kind = true

/-- R138, check 6: the owner lets a station of an alliance do an action. -/
def OwnerAdmits (owner : Owner) (side : Option Alliance) (action : ClaimAction) : Prop :=
  match owner with
  | .field => False
  | .red => side = some .red ∧ action ≠ .claim
  | .blue => side = some .blue ∧ action ≠ .claim
  | .shared => True

/-- R138: a request that passes check 1 fails one of checks 2 to 6, after passing those before it, with a reason. -/
def State.RefusedFor (s : State) (n : Fin 12) (e : Fin 32) (action : ClaimAction) (why : ClaimReason) : Prop :=
  let clear := (s.stations.get n).stopLatch = false
  let inside := s.elementHalf e = s.stationHalf n
  let present := (s.entries.get e).enabled = true ∧ (s.elements.get e).online ≠ .offline
  match why with
  | .stopped => ¬ clear
  | .half => clear ∧ ¬ inside
  | .offline => clear ∧ inside ∧ ¬ present
  | .phase => clear ∧ inside ∧ present ∧ ¬ s.PhaseAdmits e
  | .owner => clear ∧ inside ∧ present ∧ s.PhaseAdmits e
      ∧ ¬ OwnerAdmits (s.entries.get e).owner (s.stationEntry n).alliance action
  | _ => False

/-- R122: a value applied to an output of a configuration takes its mode state from one to the next. -/
def AppliedTo (c : OutputConfig) (value : Byte) (before after : OutputState) : Prop :=
  match before with
  | .level _ => after = .level value
  | .pulse _ => after = .pulse (if value = 0 then none else some (c.pulse * 10))
  | .toggle on => after = .toggle (if value = 0 then on else !on)
  | .blink position => after = .blink (if value = 0 then none else some (position.getD 0))

/-- R140, R143: a claim whose holder has left: the head waiter holds it with a fresh timer and accumulator, or nobody does. -/
def Claim.promoted (c : Claim) (limit : Nat) : Claim :=
  match c.waiters with
  | [] => .empty
  | w :: rest => { holder := some w, waiters := rest, timer := if limit = 0 then none else some limit, accumulator := 0 }

/-- R146: the console lines after a flush of one element with a reason: the holder is answered RELEASED, then each waiter from
head to tail DENIED. -/
def flushAnswers (reason : ClaimReason) (e : Fin 32) (c : Claim) (console : Tab 12 ConsoleLine) : Tab 12 ConsoleLine :=
  c.waiters.foldl (fun lines w => lines.modify w (·.pushReply (.elementReply (num8 e.val) (.denied reason))))
    (match c.holder with
    | some n => console.modify n (·.pushReply (.elementReply (num8 e.val) (.released reason)))
    | none => console)

/-- R148: the shared elements of a half that a phase of some kind and profile excludes. -/
abbrev State.PhaseExcludes (s : State) (h : Half) (p : PhaseEntry) (e : Fin 32) : Prop :=
  s.elementHalf e = h ∧ (s.entries.get e).owner = .shared
    ∧ (phaseBit (s.entries.get e).mask p.kind = false ∨ ((s.active h).profiles.get p.profile).elementAdmit = false)

/-- R146, R148: the console lines after the flushes of a phase boundary: the excluded elements of the half are taken in ascending
order, each answered with reason PHASE. -/
def State.phaseAnswers (s : State) (h : Half) (p : PhaseEntry) : Tab 12 ConsoleLine :=
  (List.finRange 32).foldl
    (fun lines e => if s.PhaseExcludes h p e then flushAnswers .phase e (s.claims.get e) lines else lines) s.console

/-- R159: the two scores with points added for an alliance, or for none. -/
def Scores.plus (x : Scores) (points : Nat) : Option Alliance → Scores
  | some .red => { x with red := min (x.red + points) 65535 }
  | some .blue => { x with blue := min (x.blue + points) 65535 }
  | none => x

/-! ## Invariants -/

/-- R164, R168, R172: of the waiting replies at most one was formed by a dispatch and at most one is a deferred PASS reply, and
none is deferred while a PASS is in flight. -/
def State.RepliesBounded (s : State) : Prop :=
  (s.trunk.replies.filter fun r => !r.deferred).length ≤ 1 ∧ (s.trunk.replies.filter fun r => r.deferred).length ≤ 1
    ∧ ∀ tag address expected, s.bus.inFlight = .pass tag address expected → ∀ r ∈ s.trunk.replies, r.deferred = false

/-- R137 for one claim: nobody waits for an element without a holder, the holder does not wait, and nobody waits twice. -/
def Claim.Formed (c : Claim) : Prop :=
  (c.holder = none → c.waiters = []) ∧ (∀ n, c.holder = some n → n ∉ c.waiters) ∧ c.waiters.Nodup

/-- The capacities of 00_scope.md 1.7 and R164: every buffer and queue holds at most what it has room for, and
the wait lists stand as R137 has them. -/
def State.Bounded (s : State) : Prop :=
  s.trunk.buffer.length ≤ 2 ∧ s.trunk.reports.length ≤ 32 ∧ s.radio.answers.length ≤ 4
    ∧ (∀ n, (s.console.get n).fifo.length ≤ 16 ∧ (s.console.get n).queue.length ≤ 4)
    ∧ (∀ e, (s.claims.get e).waiters.length ≤ 4 ∧ (s.claims.get e).Formed) ∧ s.RepliesBounded

/-- R26 for one clock: a started clock is PAUSED exactly when a hold cause is set; outside a started match command hold and stop
hold are clear; and a started match whose half is stopped has its stop hold (R44). -/
def Clock.Settled (c : Clock) : Prop :=
  (c.state.started = true → (c.state = .paused ↔ (c.commandHold || c.lineHold || c.stopHold) = true))
    ∧ (c.state.started = false → c.commandHold = false ∧ c.stopHold = false)
    ∧ (c.state.started = true → c.fieldStop = true → c.stopHold = true)

/-- R26, R44: both clocks are settled, so no clock of a stopped half is RUNNING. -/
def State.Settled (s : State) : Prop := ∀ h, (s.clocks.get h).Settled

/-- R39: outside split mode, clock B stays IDLE. -/
def State.ClockBRests (s : State) : Prop := s.split = false → s.clocks.b.state = .idle

end Sys2Proof.Machine
end

