-- ==== Sys2Proof/Certificates/Slice0/Obligations.lean ====
section
/-! DEFINITION. The statements for the provers. A statement about a trunk request's row assumes a ready trunk port (R168), so
that the request is dispatched at once; then the next state is that after its REPLY is formed (`State.replied`), with the
effect of the request. That such a row is a whole good frame, which the trunk port accepts and counts, is the model's reading of
the table (log entry 5). -/

open Sys2Proof Sys2Proof.Machine

/-! ## The machine as a whole -/

/-- The model's step (log entry 1): the command at the front of the queue runs on the state with the queue's rest. -/
def Obligations.StepRunsFrontCommand : Prop :=
  ∀ (c : Instr) (s : State), step { s with pending := c :: s.pending } = exec c s

/-- 95_what_each_step_holds.md: every step is whole; no command stops the device, and none touches the model's own queue. -/
def Obligations.EveryCommandKeepsTheQueue : Prop :=
  ∀ (c : Instr) (s : State), ∃ t, exec c s = .next t ∧ t.pending = s.pending

/-- The model's tick (log entries 1 and 2): with no command waiting and no clock RUNNING, a millisecond leaves both clocks as
they stand (R35: the tenth position is frozen) and counts every running silence timer down (R61). -/
def Obligations.IdleStepCountsSilence : Prop :=
  ∀ s : State, s.pending = [] → (∀ h, (s.clocks.get h).state ≠ .running) →
    ∃ t, step s = .next t ∧ t.pending = [] ∧ t.clocks = s.clocks ∧
      ∀ n, (t.stations.get n).silence = (s.stations.get n).silence.bind fun left => if left ≤ 1 then none else some (left - 1)

/-- R177, R24, R47, R117, R126: power-on values that the spec gives.
The state after power-on reset meets the three invariants. -/
def Obligations.ResetMeetsItsValuesAndInvariants : Prop :=
  ((∀ h, (State.reset.clocks.get h).state = .idle ∧ (State.reset.clocks.get h).fieldStop = false
      ∧ State.reset.scores.get h = ⟨0, 0⟩ ∧ (State.reset.tables.get h).valid.header = false) ∧
  State.reset.split = false ∧ State.reset.served = 11 ∧
  (∀ n, (State.reset.lines.get n).action = .none ∧ (State.reset.lines.get n).target = .a) ∧
  (∀ i, (State.reset.slots.get i).override = .auto ∧ (State.reset.links.get i).state = .vacant) ∧
  (∀ n, (State.reset.stations.get n).stopLatch = false ∧ (State.reset.console.get n).fifo = []
      ∧ (State.reset.console.get n).queue = []) ∧
  (∀ e, (State.reset.entries.get e).enabled = false ∧ (State.reset.elements.get e).online = .unknown
      ∧ (State.reset.claims.get e).holder = none) ∧
  State.reset.bus.actual = .auto ∧ State.reset.bus.period = 10 ∧ State.reset.radio.profile.period = 20 ∧
  State.reset.trunk.buffer = [] ∧ State.reset.trunk.reports = [] ∧ State.reset.trunk.nextSeq = 0) ∧
  State.reset.Bounded ∧ State.reset.Settled ∧ State.reset.ClockBRests

/-- R177, R40, R100 to R102, R105, R116: POWER_ON_RESET leaves every block at its power-on values; the arena lines are sampled, an
asserted one engaged with action NONE, and cycle 0 begins with no window; its BEACON is handed to a ready transceiver, and counted
when it is not ready. Model convention: log entries 3, 4, 23 and 24, and log entry 30 for the model's own count of looks. -/
def Obligations.PowerOnResetRestoresEveryBlock : Prop :=
  ∀ (levels : BitVec 4) (ready : Bool) (s : State), ∃ t, exec (.powerOnReset levels ready) s = .next t ∧
    t = { State.reset with lines := t.lines, radio := t.radio, pending := s.pending } ∧
    (∀ n, t.lines.get n =
      { action := .none, target := .a, level := levels.getLsb n
        engaged := if levels.getLsb n then some ⟨.none, .a⟩ else none, ignoredStarts := 0 }) ∧
    t.radio =
      { pendingProfile := .reset, profile := .reset, cycle := 0, windows := [], toCome := [], length := 20, stretched := false
        unknownJoin := false, part := .beacon, position := 0, answers := [], ready := ready, looks := s.radio.looks
        out := if ready then resetBeacon else []
        counters := { RadioCounters.zero with notReady := if ready then 0 else 1 } }

/-- R178, R179: ARENA_RESET keeps the pending banks, element entries, line configuration, split mode and pending link profile,
clears the active banks, clocks, admission state, console queues, links, outputs, bus, claims, sensors and scores, and latches
a half again from an asserted STOP line and a station from a line in break. Model convention: log entries 4 and 24. -/
def Obligations.ArenaResetKeepsTheConfiguration : Prop :=
  ∀ (s : State) (tag : Byte), s.Ready → ∃ t, exec (.arenaReset tag) s = .next t ∧
    (∀ h, (t.tables.get h).pending = (s.tables.get h).pending ∧ (t.tables.get h).valid = (s.tables.get h).valid
      ∧ (t.tables.get h).active = Bank.empty) ∧
    t.split = s.split ∧ t.entries = s.entries ∧ t.pending = s.pending ∧
    (∀ n, (t.lines.get n).action = (s.lines.get n).action ∧ (t.lines.get n).target = (s.lines.get n).target
      ∧ (t.lines.get n).level = (s.lines.get n).level ∧ (t.lines.get n).ignoredStarts = 0
      ∧ (t.lines.get n).engaged
          = if (s.lines.get n).level then some ⟨(s.lines.get n).action, (s.lines.get n).target⟩ else none) ∧
    t.radio.pendingProfile = s.radio.pendingProfile ∧ t.radio.profile = s.radio.pendingProfile ∧ t.radio.cycle = 0
      ∧ t.radio.answers = [] ∧
    (∀ h, (t.clocks.get h).state = .idle ∧ (t.clocks.get h).commandHold = false ∧ (t.clocks.get h).stopHold = false
      ∧ (t.clocks.get h).fieldStop = t.engagedWith .stop h) ∧
    (∀ n, (t.stations.get n).stopLatch = (s.console.get n).breakPresent ∧ (t.stations.get n).silence = none
      ∧ (t.console.get n).fifo = [] ∧ (t.console.get n).queue = []
      ∧ (t.console.get n).breakPresent = (s.console.get n).breakPresent) ∧
    (∀ i, t.links.get i = SlotLink.reset) ∧ t.slots = State.reset.slots ∧ t.served = 11 ∧ t.bus = Bus.reset ∧
    (∀ e, t.elements.get e = ElementLink.reset ∧ t.claims.get e = Claim.empty ∧ ∀ k, (t.sensors.get e).get k = Sensor.reset) ∧
    (∀ e k, (t.outputs.get e).get k = ((s.entries.get e).outputs.get k).mode.starting) ∧
    (∀ h, t.scores.get h = Scores.zero) ∧ t.trunk.buffer = [] ∧ t.trunk.receiver = s.trunk.receiver

/-- R176: COUNTERS_CLEAR sets every diagnostic counter to 0 and changes nothing else. -/
def Obligations.CountersClearZeroesTheCounters : Prop :=
  ∀ (s : State) (tag : Byte), s.Ready → ∃ t, exec (.countersClear tag) s = .next t ∧
    t = { s with
      trunk := { (s.replied tag .ok).trunk with counters := .zero }
      console := t.console, slots := t.slots, stations := t.stations, links := t.links, elements := t.elements, lines := t.lines
      radio := { s.radio with counters := .zero }
      bus := { s.bus with badAnswers := 0, overruns := 0, passTimeouts := 0 } } ∧
    (∀ n, t.console.get n = { s.console.get n with counters := .zero }) ∧
    (∀ i, t.slots.get i = { s.slots.get i with admitted := 0, discarded := 0 }) ∧
    (∀ n, t.stations.get n = { s.stations.get n with unassigned := 0, noSlot := 0 }) ∧
    (∀ i, t.links.get i = { s.links.get i with missed := 0 }) ∧
    (∀ e, t.elements.get e = { s.elements.get e with missedAnswers := 0 }) ∧
    ∀ n, t.lines.get n = { s.lines.get n with ignoredStarts := 0 }

/-! ## Invariants -/

/-- R164, R80, R110, R137, R168, R172: no step makes a buffer or a queue hold more than it has room for. The waiting replies are
at most two, because at most one of them was formed by a dispatch and at most one is a deferred PASS reply, and none is deferred
while a PASS is in flight. Nobody waits for an element without a holder, no holder waits, and nobody waits twice. -/
def Obligations.StepsKeepQueuesBounded : Prop :=
  ∀ s t : State, s.Bounded → step s = .next t → t.Bounded

/-- R26, R44: after every step a started clock is PAUSED exactly when a hold cause is set, and a stopped half keeps its stop
hold, so that no clock of a stopped half is RUNNING. -/
def Obligations.StepsKeepHoldsSettled : Prop :=
  ∀ s t : State, s.Settled → step s = .next t → t.Settled

/-- R39: outside split mode, clock B stays IDLE. -/
def Obligations.StepsKeepClockBAtRest : Prop :=
  ∀ s t : State, s.ClockBRests → step s = .next t → t.ClockBRests

/-! ## Trunk port -/

/-- Chapter 11, R167: every request whose frame declares its own number of bytes reads back from its frame, whatever its
operands. -/
def Obligations.RequestsReadBackFromTheirFrames : Prop :=
  ∀ (tag : Byte) (r : Request), (∀ address count expected bytes, r = .pass address count expected bytes →
      bytes.length = count.toNat) → parseRequest (r.frame tag) = .ok r

/-- R165, R166: the bytes of a trunk frame, taken one after the other by a hunting receiver, accept exactly that frame.
R13, R159, R170: the bytes of a READ of any table are answered, on a ready port, OK with a record or with a code and no data, and
nothing but the trunk port changes. A SLOT entry, the pending MATCH_HEADER and a SCORE are returned field by field; a match table
refuses a clock, an index or a bank outside its values. Model convention: log entries 5 and 21. -/
def Obligations.TrunkBytesAssembleTheirFrame : Prop :=
  (∀ (s : State) (kind tag : Byte) (body : List Byte), s.trunk.receiver = .hunting → body.length + 2 ≤ 255 →
    execAll ((trunkFrame kind tag body).map fun b => .trunkByteReceived b false) s = .next (s.acceptFrame ⟨kind, tag, body⟩)) ∧
  ∀ (s : State) (tag : Byte) (table : ReadTable) (clock bank index : Byte), s.trunk.receiver = .hunting → s.Ready →
    ∃ t code data,
      execAll ((trunkFrame 0x02 tag [table.code, clock, bank, index]).map fun b => .trunkByteReceived b false) s = .next t ∧
      t = s.counted.answer tag code data ∧ t = { s with trunk := t.trunk } ∧ (code ≠ .ok → data = []) ∧
      (∀ h (i : Fin 24), table = .slot → clock = codeHalf h → (h = .a ∨ s.split = true) → index = num8 i.val → s.slotHalf i = h →
        let record (x : SlotEntry) : List Byte :=
          bytes32 x.kit ++ [codeStation x.station, num8 x.selector.val, num8 x.power, num8 x.deadband] ++ num16 x.slew
            ++ num16 x.timeout
        (bank = 0 → code = .ok ∧ data = record ((s.active h).slots.get i)) ∧
        (bank = 1 → code = .ok
          ∧ data = record ((s.tables.get h).pending.slots.get i) ++ [codeYN ((s.tables.get h).valid.slots.get i)]) ∧
        (2 ≤ bank.toNat → code = .badValue)) ∧
      (∀ h, table = .matchHeader → clock = codeHalf h → (h = .a ∨ s.split = true) → index = 0 → bank = 1 →
        let x := (s.tables.get h).pending.header
        let valid := (s.tables.get h).valid.header
        code = .ok ∧ data = bytes16 x.number ++ bytes24 x.slots ++ bytes16 (x.stations.zeroExtend 16)
          ++ [codeYN x.autoTurnover, codeYN valid, codeYN (s.lock h)] ++ bytes24 (if valid then s.missingSlots h else 0)
          ++ bytes16 (if valid then (s.missingStations h).zeroExtend 16 else 0)) ∧
      (∀ h, table = .score → clock = codeHalf h → code = .ok ∧ data = [codeClockState (s.clocks.get h).state]
        ++ bytes16 (s.active h).header.number ++ num16 (s.scores.get h).red ++ num16 (s.scores.get h).blue) ∧
      (table ∈ [ReadTable.matchHeader, .slot, .station, .schedule, .profile] →
        (2 ≤ clock.toNat → code = .badValue) ∧ (clock = 1 → s.split = false → code = .wrongState) ∧
        (clock = 0 → 24 ≤ index.toNat → code = .badIndex))

/-- R165: hunting takes only A5h with a good stop bit, and a length outside 2-255 abandons the frame and is counted.
R165: a pause abandons a frame in reception and is counted; a pause between frames has no effect. -/
def Obligations.TrunkReceptionAbandonsBadFrames : Prop :=
  ((∀ (s : State) (b : Byte) (stopBad : Bool), s.trunk.receiver = .hunting →
    exec (.trunkByteReceived b stopBad) s =
      if b = 0xA5 ∧ stopBad = false then .next { s with trunk := { s.trunk with receiver := .receiving [] false } } else .next s) ∧
  ∀ (s : State) (high low : Byte) (damaged stopBad : Bool), s.trunk.receiver = .receiving [high] damaged →
    exec (.trunkByteReceived low stopBad) s = .next { s with trunk :=
      if 2 ≤ high.toNat * 256 + low.toNat ∧ high.toNat * 256 + low.toNat ≤ 255 then
        { s.trunk with receiver := .receiving [high, low] (damaged || stopBad) }
      else { s.trunk with
        receiver := .hunting, counters := { s.trunk.counters with lengthErrors := bump s.trunk.counters.lengthErrors } } }) ∧
  ∀ s : State, exec .trunkGapTimeout s =
    if s.trunk.receiver = .hunting then .next s
    else .next { s with trunk := { s.trunk with
      receiver := .hunting, counters := { s.trunk.counters with gapTimeouts := bump s.trunk.counters.gapTimeouts } } }

/-- R173: when a frame ends, the oldest waiting REPLY begins, else the REPORT at the head of the queue, else the line rests; a
sent record leaves the queue.
R168: when the frame that begins then is a REPLY, the frame at the head of the receive buffer is dispatched in the same event,
unless a REPLY formed by a dispatch still waits or, for a PASS frame, a deferred one does. -/
def Obligations.TransmitterPrefersReplies : Prop :=
  (∀ s : State, s.trunk.tx ≠ .idle → s.trunk.buffer = [] → ∃ t, exec .trunkFrameSent s = .next t ∧ t = { s with trunk := t.trunk } ∧
    t.trunk.reports = (if s.trunk.tx = .report then s.trunk.reports.tail else s.trunk.reports) ∧
    (∀ r rest, s.trunk.replies = r :: rest → t.trunk.tx = .reply ∧ t.trunk.wire = r.bytes ∧ t.trunk.replies = rest) ∧
    (∀ x rest, s.trunk.replies = [] → t.trunk.reports = x :: rest → t.trunk.tx = .report ∧ t.trunk.wire = x.bytes) ∧
    (s.trunk.replies = [] → t.trunk.reports = [] → t.trunk.tx = .idle ∧ t.trunk.wire = [])) ∧
  ∀ (s : State) (f : TrunkFrame) (rest : List TrunkFrame) (r : Reply) (more : List Reply), s.trunk.tx ≠ .idle →
    s.trunk.buffer = f :: rest → s.trunk.replies = r :: more →
    let begun : Trunk := { s.trunk with
      tx := .reply, wire := r.bytes, replies := more
      reports := if s.trunk.tx = .report then s.trunk.reports.tail else s.trunk.reports }
    let next : State := ({ s with trunk := { begun with buffer := rest } } : State).dispatch f
    ((∃ x ∈ more, x.deferred = false) ∨ (f.kind = 0x04 ∧ more ≠ []) → exec .trunkFrameSent s = .next { s with trunk := begun }) ∧
    ((∀ x ∈ more, x.deferred = true) → (f.kind ≠ 0x04 ∨ more = []) → (rest = [] ∨ ∃ x ∈ next.trunk.replies, x.deferred = false) →
      exec .trunkFrameSent s = .next next)

/-- R166: a good frame that finds two frames in the receive buffer, the first of them held back by a waiting REPLY, is
discarded and counted, and nothing else happens. Model convention: log entry 5. -/
def Obligations.FullBufferDiscardsRequests : Prop :=
  ∀ (c : Instr) (s : State), c.wellFormed = true → rowRequest c ≠ none → s.trunk.buffer.length = 2 →
    s.trunk.replies.any (fun r => !r.deferred) = true →
    exec c s = .next { s with trunk := { s.trunk with
      counters := { s.trunk.counters with overflows := bump s.trunk.counters.overflows } } }

/-- R174: every record uses a sequence number; it joins the queue below 32 records, and is dropped and counted at 32. -/
def Obligations.ReportsAreNumberedAndBounded : Prop :=
  ∀ (s : State) (r : Report), (s.report r).trunk.nextSeq = s.trunk.nextSeq + 1 ∧
    (s.trunk.reports.length < 32 → (s.report r).trunk.reports = s.trunk.reports ++ [⟨s.trunk.nextSeq, r⟩]
      ∧ (s.report r).trunk.counters = s.trunk.counters) ∧
    (32 ≤ s.trunk.reports.length → (s.report r).trunk.reports = s.trunk.reports
      ∧ (s.report r).trunk.counters.reportLosses = bump s.trunk.counters.reportLosses)

/-! ## Match tables -/

/-- R8, R9: a header whose masks lie in the clock's half is stored, with its valid flag alone set, so that no turnover
follows. -/
def Obligations.HeaderWriteRestartsTheBank : Prop :=
  ∀ (s : State) (tag : Byte) (h : Half) (number : BitVec 16) (slots : BitVec 24) (stations : BitVec 16) (auto : Bool), s.Ready →
    (h = .a ∨ s.split = true) → (∀ i, slots.getLsb i = true → s.slotHalf i = h) →
    (∀ n, (stations.extractLsb' 0 12).getLsb n = true → s.stationHalf n = h) →
    exec (.writeMatchHeader tag (codeHalf h) 0 ⟨number, slots, stations, codeYN auto⟩) s =
      .next { s.replied tag .ok with tables := s.tables.modify h fun m =>
        { m with
          pending := { m.pending with header := ⟨number, slots, stations.extractLsb' 0 12, auto⟩ }
          valid := { Valid.clear with header := true } } }

/-- R8, R11, R12, R15: a slot entry whose station lies in the half, with no valid entry of the bank on the same station and
selector and no valid entry of either bank on the same kit ID, is stored within its ranges; a satisfied lock with auto-turnover
turns an IDLE or ENDED clock over.
R11: a slot entry whose nonzero kit ID stands in another valid pending entry of the same bank is refused DUPLICATE_KIT when no
earlier check fails, and nothing but the trunk port changes. -/
def Obligations.SlotWriteIsStoredOrDuplicate : Prop :=
  (∀ (s : State) (tag : Byte) (h : Half) (i : Fin 24) (n : Fin 12) (k : Fin 2) (kit : BitVec 32) (power dead : Byte)
    (slew timeout : BitVec 16), s.Ready → (h = .a ∨ s.split = true) → s.slotHalf i = h → s.stationHalf n = h →
    (kit ≠ 0 → ∀ j, j ≠ i → (s.tables.get h).valid.slots.get j = true → ((s.tables.get h).pending.slots.get j).kit ≠ 0 →
      ¬ (((s.tables.get h).pending.slots.get j).station = some n ∧ ((s.tables.get h).pending.slots.get j).selector = k)) →
    (kit ≠ 0 → ∀ j, j ≠ i → (s.tables.get h).valid.slots.get j = true → ((s.tables.get h).pending.slots.get j).kit ≠ kit) →
    (kit ≠ 0 → ∀ j, (s.tables.get h.other).valid.slots.get j = true →
      ((s.tables.get h.other).pending.slots.get j).kit ≠ kit) →
    let entry : SlotEntry :=
      { kit := kit, station := some n, selector := k, power := min power.toNat 100, deadband := min dead.toNat 100,
        slew := max 1 (min slew.toNat 2000), timeout := max 100 (min timeout.toNat 2000) }
    let inRange : Bool := power.toNat ≤ 100 && dead.toNat ≤ 100 && 1 ≤ slew.toNat && slew.toNat ≤ 2000
      && 100 ≤ timeout.toNat && timeout.toNat ≤ 2000
    let stored : State := { s.replied tag (if inRange then .ok else .clamped) with tables := s.tables.modify h fun m =>
      { m with
        pending := { m.pending with slots := m.pending.slots.set i entry }
        valid := { m.valid with slots := m.valid.slots.set i true } } }
    exec (.writeSlot tag (codeHalf h) (num8 i.val) ⟨kit, num8 n.val, num8 k.val, power, dead, slew, timeout⟩) s =
      .next (if stored.lock h = true ∧ (s.tables.get h).pending.header.autoTurnover = true
          ∧ ((s.clocks.get h).state = .idle ∨ (s.clocks.get h).state = .ended)
        then stored.turnover h else stored)) ∧
  ∀ (s : State) (tag : Byte) (h : Half) (i j : Fin 24) (n : Fin 12) (k : Fin 2) (r : SlotRecord), s.Ready →
    (h = .a ∨ s.split = true) → s.slotHalf i = h → s.stationHalf n = h → r.station = num8 n.val → r.selector = num8 k.val →
    r.kit ≠ 0 → j ≠ i → (s.tables.get h).valid.slots.get j = true → ((s.tables.get h).pending.slots.get j).kit = r.kit →
    (∀ x, x ≠ i → (s.tables.get h).valid.slots.get x = true → ((s.tables.get h).pending.slots.get x).kit ≠ 0 →
      ¬ (((s.tables.get h).pending.slots.get x).station = some n ∧ ((s.tables.get h).pending.slots.get x).selector = k)) →
    exec (.writeSlot tag (codeHalf h) (num8 i.val) r) s = .next (s.replied tag .duplicateKit)

/-- R8, R12, R15: station entries and profiles are stored within their ranges and made valid, with automatic turnover as for a
slot. A team number of 0 is stored as 1. -/
def Obligations.StationAndProfileWritesAreStored : Prop :=
  (∀ (s : State) (tag : Byte) (h : Half) (n : Fin 12) (team hold : BitVec 16) (side : Alliance), s.Ready →
    (h = .a ∨ s.split = true) → s.stationHalf n = h →
    let entry : StationEntry := { team := max 1 team.toNat, alliance := some side, hold := max 100 (min hold.toNat 2000) }
    let inRange : Bool := 1 ≤ team.toNat && 100 ≤ hold.toNat && hold.toNat ≤ 2000
    let stored : State := { s.replied tag (if inRange then .ok else .clamped) with tables := s.tables.modify h fun m =>
      { m with
        pending := { m.pending with stations := m.pending.stations.set n entry }
        valid := { m.valid with stations := m.valid.stations.set n true } } }
    exec (.writeStation tag (codeHalf h) (num8 n.val) ⟨team, codeAlliance (some side), hold⟩) s =
      .next (if stored.lock h = true ∧ (s.tables.get h).pending.header.autoTurnover = true
          ∧ ((s.clocks.get h).state = .idle ∨ (s.clocks.get h).state = .ended)
        then stored.turnover h else stored)) ∧
  ∀ (s : State) (tag : Byte) (h : Half) (p : Fin 4) (enable drive elements : Bool) (buttons scale : Byte), s.Ready →
    (h = .a ∨ s.split = true) →
    let entry : Profile :=
      { robotEnable := enable, driveAdmit := drive, buttons := buttons, scale := min scale.toNat 100, elementAdmit := elements }
    let stored : State := { s.replied tag (if scale.toNat ≤ 100 then .ok else .clamped) with
      tables := s.tables.modify h fun m =>
        { m with
          pending := { m.pending with profiles := m.pending.profiles.set p entry }
          valid := { m.valid with profiles := m.valid.profiles.set p true } } }
    exec (.writeProfile tag (codeHalf h) (num8 p.val) ⟨codeYN enable, codeYN drive, buttons, scale, codeYN elements⟩) s =
      .next (if stored.lock h = true ∧ (s.tables.get h).pending.header.autoTurnover = true
          ∧ ((s.clocks.get h).state = .idle ∨ (s.clocks.get h).state = .ended)
        then stored.turnover h else stored)

/-- R5, R8, R9, R12, R15: a schedule whose first entry is not NONE is stored with its durations within 0-9999 tenths and made
valid, with automatic turnover as for a slot; one that starts with NONE is refused BAD_VALUE. -/
def Obligations.ScheduleWriteIsStored : Prop :=
  ∀ (s : State) (tag : Byte) (h : Half) (kinds : Fin 8 → PhaseKind) (durations : Fin 8 → BitVec 16) (profiles : Fin 8 → Fin 4),
    s.Ready → (h = .a ∨ s.split = true) →
    let record : Tab 8 PhaseRecord := .build fun j => ⟨codePhaseKind (kinds j), durations j, num8 (profiles j).val⟩
    let items : Tab 8 PhaseEntry := .build fun j => ⟨kinds j, min (durations j).toNat 9999, profiles j⟩
    let stored : State := { s.replied tag (if ∀ j, (durations j).toNat ≤ 9999 then .ok else .clamped) with
      tables := s.tables.modify h fun m =>
        { m with pending := { m.pending with schedule := items }, valid := { m.valid with schedule := true } } }
    exec (.writeSchedule tag (codeHalf h) 0 record) s =
      .next (if kinds 0 = .none then s.replied tag .badValue
        else if stored.lock h = true ∧ (s.tables.get h).pending.header.autoTurnover = true
          ∧ ((s.clocks.get h).state = .idle ∨ (s.clocks.get h).state = .ended)
        then stored.turnover h else stored)

/-- R16 to R22, R114: a TURNOVER of a clock that is not started, with the core of the lock satisfied, installs the pending match.
Each slot of the half is copied exactly when it is expected, valid, of nonzero kit ID, of a station present in the new bank, and
free of a conflict with the other clock's active bank, and is empty otherwise; the stations likewise by mask and validity. The
clock is ARMED at phase 0; the half's links, slots, stations, claims, scores, counts and captures are cleared as R19 to R21 give;
a TURNOVER report names the vacated and the conflicting slots, followed by a CLOCK_STATE report unless the clock was ARMED; the
other half and the pending items stay. Model convention: log entry 25 for the active entries outside the half. -/
def Obligations.TurnoverInstallsThePendingMatch : Prop :=
  ∀ (s : State) (tag : Byte) (h : Half), s.Ready → (h = .a ∨ s.split = true) → (s.clocks.get h).state.started = false →
    s.lockCore h = true →
    let p := (s.tables.get h).pending
    let valid := (s.tables.get h).valid
    ∃ t vacated conflict, exec (.turnover tag (codeHalf h)) s = .next t ∧
    t.clocks = s.clocks.set h { s.clocks.get h with
      state := .armed, phase := 0, remaining := (p.schedule.get 0).duration, elapsed := 0, tenthPos := 0,
      commandHold := false, stopHold := false, lineHold := s.lineHold h } ∧
    t.tables = s.tables.set h { active := t.active h, pending := p, valid := Valid.clear } ∧
    (t.active h).header = p.header ∧ (t.active h).schedule = p.schedule ∧ (t.active h).profiles = p.profiles ∧
    (∀ n, (t.active h).stations.get n =
      if s.stationHalf n ≠ h then (s.active h).stations.get n
      else if p.header.stations.getLsb n = true ∧ valid.stations.get n = true then p.stations.get n else .empty) ∧
    (∀ i, s.slotHalf i ≠ h → (t.active h).slots.get i = (s.active h).slots.get i) ∧
    (∀ i, s.slotHalf i = h →
      let copied : Prop := p.header.slots.getLsb i = true ∧ valid.slots.get i = true ∧ (p.slots.get i).kit ≠ 0
        ∧ ∃ n, (p.slots.get i).station = some n ∧ ((t.active h).stations.get n).team ≠ 0
      let conflicts : Prop := ∃ j, ((s.active h.other).slots.get j).kit = (p.slots.get i).kit
      (copied → ¬ conflicts → (t.active h).slots.get i = p.slots.get i) ∧
      (¬ copied ∨ conflicts → (t.active h).slots.get i = .empty) ∧
      (conflict.getLsb i = true ↔ copied ∧ conflicts)) ∧
    (∀ i, s.slotHalf i ≠ h → conflict.getLsb i = false) ∧
    (∀ i, vacated.getLsb i = true ↔ p.header.slots.getLsb i = true ∧ ((t.active h).slots.get i).kit = 0) ∧
    (∀ i, t.links.get i = if s.slotHalf i = h then
        { s.links.get i with
          state := if ((t.active h).slots.get i).kit = 0 then .vacant else .searching
          liveness := none }
      else s.links.get i) ∧
    t.radio = { s.radio with answers := s.radio.answers.filter fun a => s.slotHalf a.slot ≠ h } ∧
    (∀ i, t.slots.get i = if s.slotHalf i = h then
        { s.slots.get i with override := .auto, targets := .fill 0, lastSent := .fill 0, buttons := 0 } else s.slots.get i) ∧
    (∀ n, t.stations.get n = if s.stationHalf n = h then
        { s.stations.get n with
          silence := none, stopLatch := (s.stations.get n).stopLatch && (s.console.get n).breakPresent }
      else s.stations.get n) ∧
    (∀ e, t.claims.get e = if s.elementHalf e = h then Claim.empty else s.claims.get e) ∧
    t.scores = s.scores.set h Scores.zero ∧
    (∀ e k, (t.sensors.get e).get k = if s.elementHalf e = h then
        { (s.sensors.get e).get k with count := 0, captured := false, captureTime := 0 }
      else (s.sensors.get e).get k) ∧
    t.trunk =
      (let told := (s.replied tag .ok).report (.turnover h p.header.number vacated conflict)
      if (s.clocks.get h).state = .armed then told
      else told.report (.clockState h .armed false (s.lineHold h) false 0)).trunk ∧
    t = { s with
      tables := t.tables, clocks := t.clocks, links := t.links, slots := t.slots, stations := t.stations, claims := t.claims
      scores := t.scores, sensors := t.sensors, radio := t.radio, trunk := t.trunk }

/-- R16, R27 to R34, R38, R39: clock commands are refused with their result code, and nothing but the trunk port changes.
TURNOVER is refused WRONG_STATE in RUNNING and PAUSED, and NOT_READY without the core of the lock. START is refused
WRONG_STATE outside ARMED, and STILL_ASSERTED while the half's field stop is latched. ADVANCE, ABORT, REPLAY and CLEAR are
refused WRONG_STATE in the states that do not take them. Outside split mode every command that names clock B or half B is
refused WRONG_STATE. A clock or split value outside its codes is refused BAD_VALUE, and SPLIT_SET with a clock outside IDLE
WRONG_STATE. Model convention: log entry 19 for SPLIT_SET. -/
def Obligations.ClockCommandsAreRefused : Prop :=
  (∀ (s : State) (tag : Byte) (h : Half), s.Ready → (h = .a ∨ s.split = true) →
    ((s.clocks.get h).state.started = true → exec (.turnover tag (codeHalf h)) s = .next (s.replied tag .wrongState)) ∧
    ((s.clocks.get h).state.started = false → s.lockCore h = false →
      exec (.turnover tag (codeHalf h)) s = .next (s.replied tag .notReady))) ∧
  (∀ (s : State) (tag : Byte) (h : Half), s.Ready → (h = .a ∨ s.split = true) →
    ((s.clocks.get h).state ≠ .armed → exec (.start tag (codeHalf h)) s = .next (s.replied tag .wrongState)) ∧
    ((s.clocks.get h).state = .armed → (s.clocks.get h).fieldStop = true →
      exec (.start tag (codeHalf h)) s = .next (s.replied tag .stillAsserted))) ∧
  (∀ (s : State) (tag : Byte), s.Ready → s.split = false →
    exec (.turnover tag 1) s = .next (s.replied tag .wrongState) ∧ exec (.start tag 1) s = .next (s.replied tag .wrongState) ∧
    exec (.pause tag 1) s = .next (s.replied tag .wrongState) ∧ exec (.resume tag 1) s = .next (s.replied tag .wrongState) ∧
    exec (.advance tag 1) s = .next (s.replied tag .wrongState) ∧ exec (.abort tag 1) s = .next (s.replied tag .wrongState) ∧
    exec (.replay tag 1) s = .next (s.replied tag .wrongState) ∧ exec (.clear tag 1) s = .next (s.replied tag .wrongState) ∧
    exec (.fieldStop tag 1) s = .next (s.replied tag .wrongState) ∧
    exec (.stopClear tag 1) s = .next (s.replied tag .wrongState)) ∧
  (∀ (s : State) (tag : Byte) (h : Half), s.Ready → (h = .a ∨ s.split = true) →
    ((s.clocks.get h).state.started = false → exec (.advance tag (codeHalf h)) s = .next (s.replied tag .wrongState)
      ∧ exec (.abort tag (codeHalf h)) s = .next (s.replied tag .wrongState)) ∧
    ((s.clocks.get h).state = .idle ∨ (s.clocks.get h).state = .armed →
      exec (.replay tag (codeHalf h)) s = .next (s.replied tag .wrongState)) ∧
    ((s.clocks.get h).state.started = true → exec (.clear tag (codeHalf h)) s = .next (s.replied tag .wrongState))) ∧
  ∀ (s : State) (tag value : Byte), s.Ready →
    (2 ≤ value.toNat → exec (.splitSet tag value) s = .next (s.replied tag .badValue)
      ∧ exec (.turnover tag value) s = .next (s.replied tag .badValue) ∧ exec (.start tag value) s = .next (s.replied tag .badValue)
      ∧ exec (.fieldStop tag value) s = .next (s.replied tag .badValue)
      ∧ exec (.pause tag value) s = .next (s.replied tag .badValue) ∧ exec (.resume tag value) s = .next (s.replied tag .badValue)
      ∧ exec (.advance tag value) s = .next (s.replied tag .badValue) ∧ exec (.abort tag value) s = .next (s.replied tag .badValue)
      ∧ exec (.replay tag value) s = .next (s.replied tag .badValue) ∧ exec (.clear tag value) s = .next (s.replied tag .badValue)
      ∧ exec (.stopClear tag value) s = .next (s.replied tag .badValue)) ∧
    (value.toNat ≤ 1 → (∃ h, (s.clocks.get h).state ≠ .idle) →
      exec (.splitSet tag value) s = .next (s.replied tag .wrongState))

/-! ## Match clocks -/

/-- R28, R36, R52, R62: START of an ARMED clock whose half is not stopped enters the first phase of nonzero duration, PAUSED
under a line hold and RUNNING otherwise, with a PHASE and a CLOCK_STATE report. Targets and buttons of the half are zeroed and
its FORCE_ENABLE overrides return to AUTO. With no entry of nonzero duration, and no automatic turnover waiting, the clock goes
to ENDED with a CLOCK_STATE report only. -/
def Obligations.StartEntersTheFirstPhase : Prop :=
  (∀ (s : State) (tag : Byte) (h : Half) (j : Fin 8), s.Ready → (h = .a ∨ s.split = true) → (s.clocks.get h).state = .armed →
    (s.clocks.get h).fieldStop = false → NextPhase (s.active h).schedule 0 j →
    let c := s.clocks.get h
    let state : ClockState := if c.lineHold then .paused else .running
    ∃ t, exec (.start tag (codeHalf h)) s = .next t ∧
      t.clocks = s.clocks.set h
        { c with state := state, phase := j, remaining := ((s.active h).schedule.get j).duration, elapsed := 0, tenthPos := 0 } ∧
      t.trunk = (((s.replied tag .ok).report (.phase h j ((s.active h).schedule.get j).kind)).report
        (.clockState h state c.commandHold c.lineHold c.stopHold j)).trunk ∧
      (∀ i, t.slots.get i = if s.slotHalf i = h then
          { s.slots.get i with
            targets := .fill 0, buttons := 0
            override := if (s.slots.get i).override = .forceEnable then .auto else (s.slots.get i).override }
        else s.slots.get i) ∧
      t = { s with
        clocks := t.clocks, trunk := t.trunk, slots := t.slots, claims := t.claims, console := t.console }) ∧
  ∀ (s : State) (tag : Byte) (h : Half), s.Ready → (h = .a ∨ s.split = true) → (s.clocks.get h).state = .armed →
    (s.clocks.get h).fieldStop = false → NoPhase (s.active h).schedule 0 →
    (s.lock h && (s.tables.get h).pending.header.autoTurnover) = false → ∃ t, exec (.start tag (codeHalf h)) s = .next t ∧
      t.clocks = s.clocks.set h { s.clocks.get h with
        state := .ended, remaining := 0, elapsed := 0, tenthPos := 0, commandHold := false, stopHold := false
        lineHold := s.lineHold h } ∧
      t.trunk = ((s.replied tag .ok).report
        (.clockState h .ended false (s.lineHold h) false (s.clocks.get h).phase)).trunk ∧
      t = { s with clocks := t.clocks, trunk := t.trunk, slots := t.slots, claims := t.claims }

/-- R29: PAUSE sets the command hold of a started clock and leaves it PAUSED, with a CLOCK_STATE report unless it was PAUSED with
the hold already set; it is refused WRONG_STATE in IDLE, ARMED and ENDED.
R30: RESUME of a PAUSED clock clears the command hold, and the clock is RUNNING when no other hold is set; it is refused
STILL_ASSERTED while the half's field stop is latched, changes nothing in RUNNING, and is refused WRONG_STATE elsewhere. A
PAUSED clock here has some hold cause, as R26 has it. -/
def Obligations.PauseAndResumeMoveTheCommandHold : Prop :=
  (∀ (s : State) (tag : Byte) (h : Half), s.Ready → (h = .a ∨ s.split = true) →
    let c := s.clocks.get h
    exec (.pause tag (codeHalf h)) s = .next
      (if c.state.started then
        if c.state = .paused ∧ c.commandHold = true then s.replied tag .ok
        else
          { s with
            clocks := s.clocks.set h { c with state := .paused, commandHold := true }
            trunk := ((s.replied tag .ok).report (.clockState h .paused true c.lineHold c.stopHold c.phase)).trunk }
      else s.replied tag .wrongState)) ∧
  ∀ (s : State) (tag : Byte) (h : Half), s.Ready → (h = .a ∨ s.split = true) → (s.clocks.get h).Settled →
    let c := s.clocks.get h
    let state : ClockState := if c.lineHold || c.stopHold then .paused else .running
    exec (.resume tag (codeHalf h)) s = .next
      (if c.state = .running then s.replied tag .ok
      else if c.state = .paused then
        if c.fieldStop then s.replied tag .stillAsserted
        else if c.commandHold then
          { s with
            clocks := s.clocks.set h { c with state := state, commandHold := false }
            trunk := ((s.replied tag .ok).report (.clockState h state false c.lineHold c.stopHold c.phase)).trunk }
        else s.replied tag .ok
      else s.replied tag .wrongState)

/-- R31, R36, R62: ADVANCE of a started clock enters the next phase with its full duration at once; state, holds and elapsed
tenths stay. R146, R148: at this boundary every shared element of the half that the new phase excludes is flushed, its holder
answered RELEASED and its waiters DENIED with reason PHASE, elements in ascending order; every other claim stays.
ADVANCE out of the last phase ends the match.
R32, R36, R150: ABORT of a started clock, with no automatic turnover waiting, ends the match: ENDED with remaining 0 and the
command and stop holds clear, a CLOCK_STATE report, the half's targets zeroed and its claims emptied without answers. With a
satisfied lock and auto-turnover Y the pending match is ARMED at once. -/
def Obligations.AdvanceAndAbortLeaveThePhase : Prop :=
  (∀ (s : State) (tag : Byte) (h : Half) (j : Fin 8), s.Ready → (h = .a ∨ s.split = true) → (s.clocks.get h).state.started = true →
    NextPhase (s.active h).schedule ((s.clocks.get h).phase.val + 1) j →
    ∃ t, exec (.advance tag (codeHalf h)) s = .next t ∧
      t.clocks = s.clocks.set h
        { s.clocks.get h with phase := j, remaining := ((s.active h).schedule.get j).duration, tenthPos := 0 } ∧
      t.trunk = ((s.replied tag .ok).report (.phase h j ((s.active h).schedule.get j).kind)).trunk ∧
      (∀ e, (s.PhaseExcludes h ((s.active h).schedule.get j) e → (t.claims.get e).holder = none ∧ (t.claims.get e).waiters = []) ∧
        (¬ s.PhaseExcludes h ((s.active h).schedule.get j) e → t.claims.get e = s.claims.get e)) ∧
      t.console = s.phaseAnswers h ((s.active h).schedule.get j) ∧
      (∀ i, t.slots.get i = if s.slotHalf i = h then { s.slots.get i with targets := .fill 0, buttons := 0 } else s.slots.get i) ∧
      t = { s with
        clocks := t.clocks, trunk := t.trunk, slots := t.slots, claims := t.claims, console := t.console }) ∧
  (∀ (s : State) (tag : Byte) (h : Half), s.Ready → (h = .a ∨ s.split = true) → (s.clocks.get h).state.started = true →
    NoPhase (s.active h).schedule ((s.clocks.get h).phase.val + 1) →
    (s.lock h && (s.tables.get h).pending.header.autoTurnover) = false → ∃ t, exec (.advance tag (codeHalf h)) s = .next t ∧
      t.clocks = s.clocks.set h { s.clocks.get h with
        state := .ended, remaining := 0, tenthPos := 0, commandHold := false, stopHold := false, lineHold := s.lineHold h }) ∧
  ∀ (s : State) (tag : Byte) (h : Half), s.Ready → (h = .a ∨ s.split = true) → (s.clocks.get h).state.started = true →
    ((s.lock h && (s.tables.get h).pending.header.autoTurnover) = false →
      ∃ t, exec (.abort tag (codeHalf h)) s = .next t ∧
      t.clocks = s.clocks.set h { s.clocks.get h with
        state := .ended, remaining := 0, commandHold := false, stopHold := false, lineHold := s.lineHold h } ∧
      t.trunk = ((s.replied tag .ok).report
        (.clockState h .ended false (s.lineHold h) false (s.clocks.get h).phase)).trunk ∧
      (∀ i, t.slots.get i = if s.slotHalf i = h then { s.slots.get i with targets := .fill 0, buttons := 0 } else s.slots.get i) ∧
      (∀ e, t.claims.get e = if s.elementHalf e = h then Claim.empty else s.claims.get e) ∧
      t = { s with clocks := t.clocks, trunk := t.trunk, slots := t.slots, claims := t.claims }) ∧
    ((s.lock h && (s.tables.get h).pending.header.autoTurnover) = true →
      ∃ t, exec (.abort tag (codeHalf h)) s = .next t ∧ (t.clocks.get h).state = .armed ∧
      (t.active h).header = (s.tables.get h).pending.header)

/-- R33: REPLAY re-arms the active match of a started or ENDED clock: claims, scores, counts, captures, targets, last-sent values
and silence timers of the half are cleared; banks, links, overrides and stop latches stay. -/
def Obligations.ReplayRearmsTheMatch : Prop :=
  ∀ (s : State) (tag : Byte) (h : Half), s.Ready → (h = .a ∨ s.split = true) →
    ((s.clocks.get h).state = .running ∨ (s.clocks.get h).state = .paused ∨ (s.clocks.get h).state = .ended) →
    ∃ t, exec (.replay tag (codeHalf h)) s = .next t ∧
      t.clocks = s.clocks.set h { s.clocks.get h with
        state := .armed, phase := 0, remaining := ((s.active h).schedule.get 0).duration, elapsed := 0, tenthPos := 0,
        commandHold := false, stopHold := false, lineHold := s.lineHold h } ∧
      (∀ e, t.claims.get e = if s.elementHalf e = h then Claim.empty else s.claims.get e) ∧
      t.scores = s.scores.set h ⟨0, 0⟩ ∧
      (∀ e k, (t.sensors.get e).get k = if s.elementHalf e = h then
          { (s.sensors.get e).get k with count := 0, captured := false, captureTime := 0 }
        else (s.sensors.get e).get k) ∧
      (∀ i, t.slots.get i = if s.slotHalf i = h then
          { s.slots.get i with targets := .fill 0, lastSent := .fill 0, buttons := 0 } else s.slots.get i) ∧
      (∀ n, t.stations.get n = if s.stationHalf n = h then { s.stations.get n with silence := none } else s.stations.get n) ∧
      t.trunk = ((s.replied tag .ok).report (.clockState h .armed false (s.lineHold h) false 0)).trunk ∧
      t = { s with
        clocks := t.clocks, claims := t.claims, scores := t.scores, sensors := t.sensors, slots := t.slots,
        stations := t.stations, trunk := t.trunk }

/-- R34: CLEAR of a clock that is not started empties its active bank and sets it IDLE; the half's slots become VACANT, its
claims, scores, counts, captures and admission state are cleared, its overrides return to AUTO; the pending bank and the stop
latches stay. -/
def Obligations.ClearEmptiesTheMatch : Prop :=
  ∀ (s : State) (tag : Byte) (h : Half), s.Ready → (h = .a ∨ s.split = true) → (s.clocks.get h).state.started = false →
    ∃ t, exec (.clear tag (codeHalf h)) s = .next t ∧
      t.clocks = s.clocks.set h { s.clocks.get h with
        state := .idle, phase := 0, remaining := 0, elapsed := 0, tenthPos := 0, commandHold := false, stopHold := false,
        lineHold := s.lineHold h } ∧
      t.tables = s.tables.set h { s.tables.get h with active := .empty } ∧
      (∀ i, t.links.get i = if s.slotHalf i = h then { s.links.get i with state := .vacant, liveness := none }
        else s.links.get i) ∧
      (∀ i, t.slots.get i = if s.slotHalf i = h then
          { s.slots.get i with targets := .fill 0, lastSent := .fill 0, buttons := 0, override := .auto } else s.slots.get i) ∧
      (∀ e, t.claims.get e = if s.elementHalf e = h then Claim.empty else s.claims.get e) ∧ t.scores = s.scores.set h ⟨0, 0⟩ ∧
      (∀ e k, (t.sensors.get e).get k = if s.elementHalf e = h then
          { (s.sensors.get e).get k with count := 0, captured := false, captureTime := 0 }
        else (s.sensors.get e).get k) ∧
      (∀ n, t.stations.get n = if s.stationHalf n = h then { s.stations.get n with silence := none } else s.stations.get n) ∧
      t = { s with
        clocks := t.clocks, tables := t.tables, links := t.links, slots := t.slots, claims := t.claims, scores := t.scores,
        sensors := t.sensors, stations := t.stations, radio := t.radio, trunk := t.trunk }

/-- R38: SPLIT_SET with both clocks IDLE takes the value, empties both pending banks and carries the stop latches: turned on,
half B takes A's latch and any engaged STOP line that targets B or BOTH latches it; turned off, A's latch takes either and B's
is cleared. Model convention: log entry 19. -/
def Obligations.SplitSetCarriesTheStops : Prop :=
  ∀ (s : State) (tag : Byte) (v : Bool), s.Ready → s.clocks.a.state = .idle → s.clocks.b.state = .idle →
    ∃ t, exec (.splitSet tag (codeYN v)) s = .next t ∧ t.split = v ∧
      (∀ h, (t.tables.get h).pending = Bank.empty ∧ (t.tables.get h).valid = Valid.clear
        ∧ (t.tables.get h).active = (s.tables.get h).active ∧ (t.clocks.get h).state = .idle
        ∧ (t.clocks.get h).lineHold = t.lineHold h) ∧
      (s.split = v → t.clocks.a.fieldStop = s.clocks.a.fieldStop ∧ t.clocks.b.fieldStop = s.clocks.b.fieldStop) ∧
      (s.split = false → v = true → t.clocks.a.fieldStop = s.clocks.a.fieldStop
        ∧ (t.clocks.b.fieldStop = true ↔ s.clocks.a.fieldStop = true ∨ ∃ n g, (s.lines.get n).engaged = some g
            ∧ g.action = .stop ∧ (g.target = .b ∨ g.target = .both))) ∧
      (s.split = true → v = false → t.clocks.a.fieldStop = (s.clocks.a.fieldStop || s.clocks.b.fieldStop)
        ∧ t.clocks.b.fieldStop = false)

/-- R44, R148: FIELD_STOP latches a half that is not stopped: a STOP report, then, for a started clock, stop hold and command hold
with PAUSED and a CLOCK_STATE report; every shared element of the half loses its holder and waiters. A latch already set stays,
and the answer is OK.
R45: STOP_CLEAR is refused STILL_ASSERTED while an engaged STOP line targets the half; else it clears a set latch and the stop
hold, leaves the command hold, and changes nothing when the latch is clear. -/
def Obligations.FieldStopAndStopClear : Prop :=
  (∀ (s : State) (tag : Byte) (h : Half), s.Ready → (h = .a ∨ s.split = true) →
    ((s.clocks.get h).fieldStop = true → exec (.fieldStop tag (codeHalf h)) s = .next (s.replied tag .ok)) ∧
    ((s.clocks.get h).fieldStop = false → ∃ t, exec (.fieldStop tag (codeHalf h)) s = .next t ∧
      t.clocks = s.clocks.set h (if (s.clocks.get h).state.started then
          { s.clocks.get h with fieldStop := true, state := .paused, stopHold := true, commandHold := true }
        else { s.clocks.get h with fieldStop := true }) ∧
      (∀ e, s.elementHalf e = h → (s.entries.get e).owner = .shared →
        (t.claims.get e).holder = none ∧ (t.claims.get e).waiters = []) ∧
      (∀ e, ¬ (s.elementHalf e = h ∧ (s.entries.get e).owner = .shared) → t.claims.get e = s.claims.get e) ∧
      t.trunk =
        (let told := (s.replied tag .ok).report (.stop h .command true)
        if (s.clocks.get h).state.started = true
            ∧ ¬ ((s.clocks.get h).state = .paused ∧ (s.clocks.get h).commandHold = true ∧ (s.clocks.get h).stopHold = true)
        then told.report (.clockState h .paused true (s.clocks.get h).lineHold true (s.clocks.get h).phase) else told).trunk ∧
      t = { s with clocks := t.clocks, claims := t.claims, console := t.console, trunk := t.trunk })) ∧
  ∀ (s : State) (tag : Byte) (h : Half), s.Ready → (h = .a ∨ s.split = true) →
    ((∃ n g, (s.lines.get n).engaged = some g ∧ g.action = .stop ∧ s.targets g.target h = true) →
      exec (.stopClear tag (codeHalf h)) s = .next (s.replied tag .stillAsserted)) ∧
    ((∀ n g, (s.lines.get n).engaged = some g → g.action = .stop → s.targets g.target h = false) →
      ((s.clocks.get h).fieldStop = false → exec (.stopClear tag (codeHalf h)) s = .next (s.replied tag .ok)) ∧
      ((s.clocks.get h).fieldStop = true → ∃ t, exec (.stopClear tag (codeHalf h)) s = .next t ∧
        t.clocks.get h = { s.clocks.get h with
          fieldStop := false, stopHold := false
          state := if (s.clocks.get h).state.started then
              (if (s.clocks.get h).commandHold || (s.clocks.get h).lineHold then .paused else .running)
            else (s.clocks.get h).state } ∧
        t.clocks.get h.other = s.clocks.get h.other ∧ t = { s with clocks := t.clocks, trunk := t.trunk }))

/-- R35, R144: a tenth event of a RUNNING clock with more than one tenth left counts remaining down and elapsed up, and every
running hold timer of its half with more than one tenth left counts down by 1; the last tenth of a phase enters the next
phase; in every other state it changes nothing. R36: at the expiry of a phase of a RUNNING clock the next phase of nonzero
duration is entered with a PHASE report; without one, and with no automatic turnover waiting, the clock is ENDED. R146,
R148: at the boundary every shared element of the half that the new phase excludes is flushed with reason PHASE, its holder
answered RELEASED and its waiters DENIED, elements in ascending order; every other claim stays. The boundary that a
tenth event reaches empties the same claims; its answers are said where no hold timer is at its last tenth, so that the flushes
alone form answers.
R143 to R145: a tenth accrues for a held shared element with hold points before its timer counts down and before a boundary: the
tenth tenth credits the holder's alliance and empties the accumulator, also for a holder whose timer expires in it; the expiry
promotes the head waiter. Said here for one accruing element of the half, because the points of several add up. Model
convention: log entry 7 for PHASE_EXPIRY. -/
def Obligations.TenthsAndPhaseExpiryRunTheClock : Prop :=
  (∀ (s : State) (h : Half),
    ((s.clocks.get h).state ≠ .running → exec (.tenthEvent h) s = .next s) ∧
    ((s.clocks.get h).state = .running → 2 ≤ (s.clocks.get h).remaining → ∃ t, exec (.tenthEvent h) s = .next t ∧
      t.clocks = s.clocks.set h { s.clocks.get h with
        remaining := (s.clocks.get h).remaining - 1, elapsed := min ((s.clocks.get h).elapsed + 1) 65535, tenthPos := 0 } ∧
      (∀ e left, s.elementHalf e = h → (s.entries.get e).owner = .shared → (s.claims.get e).timer = some left → 2 ≤ left →
        (t.claims.get e).timer = some (left - 1) ∧ (t.claims.get e).holder = (s.claims.get e).holder) ∧
      t = { s with clocks := t.clocks, claims := t.claims, scores := t.scores, console := t.console }) ∧
    (∀ j, (s.clocks.get h).state = .running → (s.clocks.get h).remaining ≤ 1 →
      NextPhase (s.active h).schedule ((s.clocks.get h).phase.val + 1) j → ∃ t, exec (.tenthEvent h) s = .next t ∧
      t.clocks = s.clocks.set h { s.clocks.get h with
        phase := j, remaining := ((s.active h).schedule.get j).duration
        elapsed := min ((s.clocks.get h).elapsed + 1) 65535, tenthPos := 0 } ∧
      (∀ e, s.PhaseExcludes h ((s.active h).schedule.get j) e → (t.claims.get e).holder = none ∧ (t.claims.get e).waiters = []) ∧
      ((∀ e left, (s.claims.get e).timer = some left → 2 ≤ left) →
        t.console = s.phaseAnswers h ((s.active h).schedule.get j)))) ∧
  (∀ (s : State) (h : Half), (s.clocks.get h).state = .running →
    (∀ j, NextPhase (s.active h).schedule ((s.clocks.get h).phase.val + 1) j → ∃ t, exec (.phaseExpiry h) s = .next t ∧
      t.clocks = s.clocks.set h
        { s.clocks.get h with phase := j, remaining := ((s.active h).schedule.get j).duration, tenthPos := 0 } ∧
      t.trunk = (s.report (.phase h j ((s.active h).schedule.get j).kind)).trunk ∧
      (∀ e, (s.PhaseExcludes h ((s.active h).schedule.get j) e → (t.claims.get e).holder = none ∧ (t.claims.get e).waiters = []) ∧
        (¬ s.PhaseExcludes h ((s.active h).schedule.get j) e → t.claims.get e = s.claims.get e)) ∧
      t.console = s.phaseAnswers h ((s.active h).schedule.get j) ∧
      t = { s with clocks := t.clocks, trunk := t.trunk, slots := t.slots, claims := t.claims, console := t.console }) ∧
    (NoPhase (s.active h).schedule ((s.clocks.get h).phase.val + 1) →
      (s.lock h && (s.tables.get h).pending.header.autoTurnover) = false → ∃ t, exec (.phaseExpiry h) s = .next t ∧
      t.clocks = s.clocks.set h { s.clocks.get h with
        state := .ended, remaining := 0, tenthPos := 0, commandHold := false, stopHold := false, lineHold := s.lineHold h })) ∧
  ∀ (s : State) (h : Half) (e : Fin 32) (n : Fin 12), (s.clocks.get h).state = .running →
    (2 ≤ (s.clocks.get h).remaining ∨ ∃ j, NextPhase (s.active h).schedule ((s.clocks.get h).phase.val + 1) j) →
    s.elementHalf e = h → (s.entries.get e).owner = .shared → (s.claims.get e).holder = some n → (s.entries.get e).holdPoints ≠ 0 →
    (∀ x, x ≠ e → s.elementHalf x = h → (s.entries.get x).owner = .shared → (s.entries.get x).holdPoints ≠ 0 →
      (s.claims.get x).holder = none) →
    let c := s.claims.get e
    ∃ t, exec (.tenthEvent h) s = .next t ∧
      t.scores = (if 9 ≤ c.accumulator then
          s.scores.set h ((s.scores.get h).plus (s.entries.get e).holdPoints (s.stationEntry n).alliance)
        else s.scores) ∧
      (2 ≤ (s.clocks.get h).remaining →
        ((∀ left, c.timer = some left → 2 ≤ left) → t.claims.get e = { c with
          accumulator := if 9 ≤ c.accumulator then c.accumulator - 9 else c.accumulator + 1, timer := c.timer.map (· - 1) }) ∧
        (∀ left, c.timer = some left → left ≤ 1 → t.claims.get e = c.promoted (s.entries.get e).holdLimit))

/-! ## Arena lines -/

/-- R40 to R44: at its rising edge a line is engaged with its configured action and target. HOLD sets the line hold of every
target clock and pauses a started one; STOP latches every target half; START starts an ARMED target clock whose half is not
stopped.
R40, R42: at its falling edge a line loses its engagement; the line holds follow the lines that stay engaged, and a clock
PAUSED by line hold alone is RUNNING again. -/
def Obligations.ArenaLineEdges : Prop :=
  (∀ (s : State) (n : Fin 4), (s.lines.get n).level = false → ∃ t, exec (.arenaLineRisingEdge n) s = .next t ∧
    (t.lines.get n).level = true ∧
    (t.lines.get n).engaged = some ⟨(s.lines.get n).action, (s.lines.get n).target⟩ ∧
    (∀ m, m ≠ n → t.lines.get m = s.lines.get m) ∧
    ((s.lines.get n).action = .hold → ∀ h, s.targets (s.lines.get n).target h = true →
      (t.clocks.get h).lineHold = true ∧ ((s.clocks.get h).state.started = true → (t.clocks.get h).state = .paused)) ∧
    ((s.lines.get n).action = .stop → ∀ h, s.targets (s.lines.get n).target h = true → (t.clocks.get h).fieldStop = true) ∧
    ((s.lines.get n).action = .start → ∀ h j, s.targets (s.lines.get n).target h = true → (s.clocks.get h).state = .armed →
      (s.clocks.get h).fieldStop = false → NextPhase (s.active h).schedule 0 j →
      (t.clocks.get h).state = (if t.lineHold h then .paused else .running) ∧ (t.clocks.get h).phase = j) ∧
    ((s.lines.get n).action ≠ .start → t = { s with
      lines := t.lines, clocks := t.clocks, claims := t.claims, console := t.console, trunk := t.trunk })) ∧
  ∀ (s : State) (n : Fin 4), (s.lines.get n).level = true → ∃ t, exec (.arenaLineFallingEdge n) s = .next t ∧
    t.lines = s.lines.set n { s.lines.get n with level := false, engaged := none } ∧
    (∀ h, (t.clocks.get h).lineHold = t.lineHold h ∧ (t.clocks.get h).fieldStop = (s.clocks.get h).fieldStop
      ∧ ((s.clocks.get h).state.started = true → (t.clocks.get h).state =
          if (s.clocks.get h).commandHold || t.lineHold h || (s.clocks.get h).stopHold then .paused else .running)) ∧
    t = { s with lines := t.lines, clocks := t.clocks, trunk := t.trunk }

/-- R41: a START edge outside split mode at a clock that cannot start counts one ignored start and starts nothing. -/
def Obligations.IgnoredStartIsCounted : Prop :=
  ∀ (s : State) (n : Fin 4), (s.lines.get n).level = false → (s.lines.get n).action = .start → s.split = false →
    ¬ (s.clocks.a.state = .armed ∧ s.clocks.a.fieldStop = false) → (∀ h, (s.clocks.get h).lineHold = s.lineHold h) →
    s.Settled → (∀ m, (s.lines.get m).level = false → (s.lines.get m).engaged = none) →
    exec (.arenaLineRisingEdge n) s = .next { s with
      lines := s.lines.set n
        { s.lines.get n with
          level := true, engaged := some ⟨.start, (s.lines.get n).target⟩
          ignoredStarts := bump (s.lines.get n).ignoredStarts } }

/-! ## Tables with no other effect -/

/-- R40, R98: writes of ARENA_LINES and LINK are stored and do nothing else; the clock field is ignored, and a cycle period is
brought into 10-100 ms with CLAMPED. An index outside the table is refused BAD_INDEX. -/
def Obligations.LineAndLinkWritesAreStored : Prop :=
  (∀ (s : State) (tag clock : Byte) (n : Fin 4) (action : LineAction) (target : LineTarget), s.Ready →
    exec (.writeArenaLines tag clock (num8 n.val) ⟨codeLineAction action, codeLineTarget target⟩) s =
      .next { s.replied tag .ok with lines := s.lines.set n { s.lines.get n with action := action, target := target } }) ∧
  (∀ (s : State) (tag clock : Byte) (channel : Fin 16) (rate : AirRate) (arena period : Byte) (join : Bool), s.Ready →
    exec (.writeLink tag clock 0 ⟨num8 channel.val, codeAirRate rate, arena, period, codeYN join⟩) s =
      .next { s.replied tag (if 10 ≤ period.toNat ∧ period.toNat ≤ 100 then .ok else .clamped) with
        radio := { s.radio with pendingProfile := ⟨channel, rate, arena, max 10 (min period.toNat 100), join⟩ } }) ∧
  ∀ (s : State) (tag clock index : Byte) (line : LineRecord) (link : LinkRecord), s.Ready →
    (4 ≤ index.toNat → exec (.writeArenaLines tag clock index line) s = .next (s.replied tag .badIndex)) ∧
    (index ≠ 0 → exec (.writeLink tag clock index link) s = .next (s.replied tag .badIndex))

/-! ## Admission unit -/

/-- R51, R55: OVERRIDE stores its value, but FORCE_ENABLE is refused WRONG_STATE while the slot's clock is RUNNING or PAUSED;
LINK_FLAG_CLEAR clears the sticky lost flag.
R54: STATION_RESUME is refused STILL_ASSERTED while the line is in break; else it clears a set latch with a STATION_STOP
report, and changes nothing when the latch is clear. An operand outside its range is refused BAD_INDEX or BAD_VALUE. -/
def Obligations.OverridesFlagsAndStationStops : Prop :=
  ((∀ (s : State) (tag : Byte) (i : Fin 24) (v : Override), s.Ready →
    exec (.override tag (num8 i.val) (codeOverride v)) s = .next
      (if v = .forceEnable ∧ (s.clocks.get (s.slotHalf i)).state.started = true then s.replied tag .wrongState
      else { s.replied tag .ok with slots := s.slots.set i { s.slots.get i with override := v } })) ∧
  ∀ (s : State) (tag : Byte) (i : Fin 24), s.Ready →
    exec (.linkFlagClear tag (num8 i.val)) s =
      .next { s.replied tag .ok with slots := s.slots.set i { s.slots.get i with stickyLost := false } }) ∧
  (∀ (s : State) (tag : Byte) (n : Fin 12), s.Ready →
    exec (.stationResume tag (num8 n.val)) s = .next
      (if (s.console.get n).breakPresent then s.replied tag .stillAsserted
      else if (s.stations.get n).stopLatch then
        { (s.replied tag .ok).report (.stationStop n false) with
          stations := s.stations.set n { s.stations.get n with stopLatch := false } }
      else s.replied tag .ok)) ∧
  ∀ (s : State) (tag index value : Byte), s.Ready →
    (24 ≤ index.toNat → (value.toNat < 3 → exec (.override tag index value) s = .next (s.replied tag .badIndex))
      ∧ exec (.linkFlagClear tag index) s = .next (s.replied tag .badIndex)) ∧
    (index.toNat < 24 → 3 ≤ value.toNat → exec (.override tag index value) s = .next (s.replied tag .badValue)) ∧
    (12 ≤ index.toNat → exec (.stationResume tag index) s = .next (s.replied tag .badIndex))

/-- R57, R58, R66 to R70: a CONTROL frame of a present station for a found slot, with the stop clear, outside test mode and
under a profile that admits drive, sets each target to the bounded, deadbanded and scaled raw value, masks the buttons and
reloads the silence timer. While the station's stop is latched the drive part is discarded and counted. R57: a CONTROL frame
of an absent station is discarded whole and counted. Model convention: log entry 9. -/
def Obligations.ControlFrameConditionsOrIsDiscarded : Prop :=
  (∀ (s : State) (n : Fin 12) (i : Fin 24) (f : ControlFrame) (p : Profile), s.nextLine = some n →
    (s.console.get n).assembler = .waiting (.control f) → f.request = none → (s.stationEntry n).team ≠ 0 →
    s.findSlot n f.selector = some i → (s.stations.get n).stopLatch = false → s.testMode i = false →
    s.profileInForce (s.slotHalf i) = some p → p.driveAdmit = true →
    ∃ t, exec .controlFrame s = .next t ∧ t.served = n ∧
      (∀ k, (t.slots.get i).targets.get k =
        let r := max (-1000) (min (f.channels.get k).toInt 1000)
        let dead : Int := if r.natAbs ≤ (s.slotEntry i).deadband then 0 else r
        (dead * (s.slotEntry i).power * p.scale).tdiv 10000) ∧
      (t.slots.get i).buttons = f.buttons &&& p.buttons ∧ (t.slots.get i).admitted = bump (s.slots.get i).admitted ∧
      (t.slots.get i).lastSent = (s.slots.get i).lastSent ∧ (∀ j, j ≠ i → t.slots.get j = s.slots.get j) ∧
      t.stations = s.stations.set n { s.stations.get n with silence := some (s.stationEntry n).hold } ∧
      t = { s with served := n, slots := t.slots, stations := t.stations, console := t.console }) ∧
  (∀ (s : State) (n : Fin 12) (i : Fin 24) (f : ControlFrame), s.nextLine = some n →
    (s.console.get n).assembler = .waiting (.control f) → f.request = none → (s.stationEntry n).team ≠ 0 →
    s.findSlot n f.selector = some i → (s.stations.get n).stopLatch = true → ∃ t, exec .controlFrame s = .next t ∧
      t.slots = s.slots.set i { s.slots.get i with discarded := bump (s.slots.get i).discarded } ∧
      t = { s with served := n, slots := t.slots, console := t.console }) ∧
  ∀ (s : State) (n : Fin 12) (f : ControlFrame), s.nextLine = some n →
    (s.console.get n).assembler = .waiting (.control f) → (s.stationEntry n).team = 0 →
    ∃ t, exec .controlFrame s = .next t ∧
      t.stations = s.stations.set n { s.stations.get n with unassigned := bump (s.stations.get n).unassigned } ∧
      t = { s with served := n, stations := t.stations, console := t.console }

/-- R59, R138, R140: the CLAIM of a clear station in the half of an enabled shared element that is not OFFLINE and
admitted by the phase. A free element is GRANTED with a fresh timer; an element that another station holds gives the next
place of its wait list, or DENIED FULL at four waiters; the holder is told HELD. The answer joins the station's transmit
queue.
R59, R138, R140 to R142: an element request in any CONTROL frame of a present station is answered on its line, by R94 where the
queue is full. The first failing check of R138 answers DENIED with its reason, and no claim and no output changes. Past the
checks a CLAIM is decided as above, and QUEUED with its present place for a station that waits already; a RELEASE frees the
holder with a promotion, or takes a waiter out, or is DENIED NOT_HOLDER; an ACTUATE is DONE and applies its value, or is DENIED
NOT_HOLDER for a shared element that another holds. A station that holds an element is not in its wait list (R137). Model
convention: log entry 9. -/
def Obligations.ClaimsAreDecided : Prop :=
  (∀ (s : State) (n : Fin 12) (e : Fin 32) (f : ControlFrame) (output value : Byte), s.nextLine = some n →
    (s.console.get n).assembler = .waiting (.control f) → f.request = some ⟨num8 e.val, .claim, output, value⟩ →
    (s.stationEntry n).team ≠ 0 → s.findSlot n f.selector = none → (s.stations.get n).stopLatch = false →
    s.elementHalf e = s.stationHalf n → (s.entries.get e).enabled = true → (s.elements.get e).online ≠ .offline →
    s.elementPhase e = true → (s.entries.get e).owner = .shared → (s.console.get n).queue.length < 4 →
    ∃ t answer, exec .controlFrame s = .next t ∧
      (t.console.get n).queue = (s.console.get n).queue ++ [.elementReply (num8 e.val) answer] ∧
      ((s.claims.get e).holder = none → answer = .granted ∧ t.claims = s.claims.set e
        { holder := some n, waiters := (s.claims.get e).waiters
          timer := if (s.entries.get e).holdLimit = 0 then none else some (s.entries.get e).holdLimit, accumulator := 0 }) ∧
      ((s.claims.get e).holder = some n → answer = .held ∧ t.claims = s.claims) ∧
      (∀ m, (s.claims.get e).holder = some m → m ≠ n → n ∉ (s.claims.get e).waiters →
        ((s.claims.get e).waiters.length < 4 → answer = .queued ((s.claims.get e).waiters.length + 1) ∧
          t.claims = s.claims.set e { s.claims.get e with waiters := (s.claims.get e).waiters ++ [n] }) ∧
        (4 ≤ (s.claims.get e).waiters.length → answer = .denied .full ∧ t.claims = s.claims)) ∧
      (t.stations.get n).noSlot = bump (s.stations.get n).noSlot ∧ t.slots = s.slots ∧ t.scores = s.scores) ∧
  ∀ (s : State) (n : Fin 12) (f : ControlFrame) (r : ElementRequest), s.Requests n f r →
    (∀ e, (s.claims.get e).holder = some n → n ∉ (s.claims.get e).waiters) →
    ∃ t answer, exec .controlFrame s = .next t ∧ ReplyPlaced (s.console.get n) (t.console.get n) (.elementReply r.element answer) ∧
      t = { s with
        served := n, slots := t.slots, stations := t.stations, console := t.console, claims := t.claims, outputs := t.outputs } ∧
      (∀ m, m ≠ n → (∀ e : Fin 32, r.element = num8 e.val → (s.claims.get e).waiters.head? ≠ some m) →
        t.console.get m = s.console.get m) ∧
      (32 ≤ r.element.toNat ∨ (r.action = .actuate ∧ 2 ≤ r.output.toNat) →
        answer = .denied .invalid ∧ t.claims = s.claims ∧ t.outputs = s.outputs) ∧
      ∀ e : Fin 32, r.element = num8 e.val → (r.action = .actuate → r.output.toNat < 2) →
        let c := s.claims.get e
        let limit := (s.entries.get e).holdLimit
        (∀ why, s.RefusedFor n e r.action why → answer = .denied why ∧ t.claims = s.claims ∧ t.outputs = s.outputs) ∧
        ((∀ why, ¬ s.RefusedFor n e r.action why) →
          (r.action = .claim → t.outputs = s.outputs ∧
            (c.holder = none → answer = .granted ∧ t.claims = s.claims.set e
              { c with holder := some n, timer := if limit = 0 then none else some limit, accumulator := 0 }) ∧
            (c.holder = some n → answer = .held ∧ t.claims = s.claims) ∧
            (∀ m, c.holder = some m → m ≠ n →
              (∀ before after, c.waiters = before ++ n :: after → n ∉ before →
                answer = .queued (before.length + 1) ∧ t.claims = s.claims) ∧
              (n ∉ c.waiters → c.waiters.length < 4 → answer = .queued (c.waiters.length + 1)
                ∧ t.claims = s.claims.set e { c with waiters := c.waiters ++ [n] }) ∧
              (n ∉ c.waiters → 4 ≤ c.waiters.length → answer = .denied .full ∧ t.claims = s.claims))) ∧
          (r.action = .release → t.outputs = s.outputs ∧
            (c.holder = some n → answer = .released .none ∧ t.claims = s.claims.set e (c.promoted limit) ∧
              ∀ w rest, c.waiters = w :: rest → ReplyPlaced (s.console.get w) (t.console.get w) (.elementReply r.element .granted)) ∧
            (c.holder ≠ some n → n ∈ c.waiters → answer = .released .none
              ∧ t.claims = s.claims.set e { c with waiters := c.waiters.filter (· ≠ n) }) ∧
            (c.holder ≠ some n → n ∉ c.waiters → answer = .denied .notHolder ∧ t.claims = s.claims)) ∧
          (r.action = .actuate → t.claims = s.claims ∧
            ((s.entries.get e).owner = .shared → c.holder ≠ some n → answer = .denied .notHolder ∧ t.outputs = s.outputs) ∧
            (((s.entries.get e).owner = .shared → c.holder = some n) → ∀ k : Fin 2, r.output = num8 k.val → answer = .done
              ∧ AppliedTo ((s.entries.get e).outputs.get k) r.value ((s.outputs.get e).get k) ((t.outputs.get e).get k)
              ∧ ∀ x y, (x ≠ e ∨ y ≠ k) → (t.outputs.get x).get y = (s.outputs.get x).get y)))

/-- R60: a PING is answered with a STATUS frame on its own line, built from the state as it stands; it changes no admission
state but the round-robin position. R94: at four frames the STATUS evicts the oldest TELEMETRY frame that has not begun, or is
dropped, and the one or the other is counted. Model convention: log entry 9. -/
def Obligations.PingQueuesTheStatus : Prop :=
  (∀ (s : State) (n : Fin 12), s.nextLine = some n → (s.console.get n).assembler = .waiting .ping →
    (s.console.get n).queue.length < 4 → ∃ t, exec .ping s = .next t ∧
      (∃ selectors, (t.console.get n).queue = (s.console.get n).queue ++
          [.status (decide ((s.stationEntry n).team ≠ 0)) (s.stations.get n).stopLatch (s.console.get n).breakPresent
            (s.stations.get n).silence.isSome selectors]
        ∧ ∀ k, selectors.get k = (s.findSlot n (num8 k.val)).map fun i =>
            ⟨i, s.permission i, (s.links.get i).state, (s.slots.get i).stickyLost⟩) ∧
      (∀ m, m ≠ n → t.console.get m = s.console.get m) ∧ t = { s with served := n, console := t.console }) ∧
  ∀ (s : State) (n : Fin 12), s.nextLine = some n → (s.console.get n).assembler = .waiting .ping →
    ∃ t selectors, exec .ping s = .next t ∧
      ReplyPlaced (s.console.get n) (t.console.get n)
        (.status (decide ((s.stationEntry n).team ≠ 0)) (s.stations.get n).stopLatch (s.console.get n).breakPresent
          (s.stations.get n).silence.isSome selectors) ∧
      (∀ k, selectors.get k = (s.findSlot n (num8 k.val)).map fun i =>
        ⟨i, s.permission i, (s.links.get i).state, (s.slots.get i).stickyLost⟩) ∧
      (∀ m, m ≠ n → t.console.get m = s.console.get m) ∧ t = { s with served := n, console := t.console }

/-- R61: the expiry of a running silence timer makes the station QUIET and zeroes the targets and buttons of every slot whose
entry names it; last-sent values stay. Model convention: log entry 7. -/
def Obligations.SilenceExpiryZeroesTheTargets : Prop :=
  ∀ (s : State) (n : Fin 12), (s.stations.get n).silence ≠ none → ∃ t, exec (.silenceTimerExpiry n) s = .next t ∧
    t.stations = s.stations.set n { s.stations.get n with silence := none } ∧
    (∀ i, t.slots.get i = if (s.slotEntry i).station = some n then { s.slots.get i with targets := .fill 0, buttons := 0 }
      else s.slots.get i) ∧
    t = { s with stations := t.stations, slots := t.slots }

/-! ## Console lines -/

/-- R83, R86: a character joins the FIFO of a line whose frame waits, with the pending boundaries, or is lost and counted at
16 entries with LOSS pending; a line in break receives none; a hunting line with an empty FIFO begins a frame at a good 7Eh.
R84, R88: a GAP in the first idle period of a line abandons a frame in assembly with an empty FIFO and counts it; while the
assembler hunts it only ends the idle period.
R86 to R89: a character that reaches a frame in assembly with a BREAK or GAP abandons the frame and is examined as the first of
the next one; otherwise it is taken: as the length, which must be 1-32, as a byte of kind and body, or as the check byte, which
completes the frame. A complete frame is judged in order: damaged or of a wrong sum, of an unknown kind, of a wrong length or of a
bad request, each discarded and counted; a good one is held in WAITING and counted. Model convention: log entry 11 for the
framing error counted with a lost character, log entry 8 for a character on a line in break. -/
def Obligations.CharacterAndGapReachTheAssembler : Prop :=
  ((∀ (s : State) (n : Fin 12) (byte : Byte) (framing : Bool) (held : HeldFrame), (s.console.get n).breakPresent = false →
    (s.console.get n).assembler = .waiting held →
    let c := (s.console.get n).counters
    let counted : LineCounters := if framing then { c with framingErrors := bump c.framingErrors } else c
    exec (.consoleCharacterReceived n byte framing) s = .next { s with
      console := s.console.set n (if (s.console.get n).fifo.length < 16 then
          { s.console.get n with
            fifo := (s.console.get n).fifo ++ [⟨byte, framing, (s.console.get n).pending⟩], pending := .empty
            gapRaised := false, counters := counted }
        else
          { s.console.get n with
            pending := { (s.console.get n).pending with loss := true }, gapRaised := false
            counters := { counted with overruns := bump c.overruns } }) }) ∧
  (∀ (s : State) (n : Fin 12) (byte : Byte) (framing : Bool), (s.console.get n).breakPresent = true →
    exec (.consoleCharacterReceived n byte framing) s = .next s) ∧
  ∀ (s : State) (n : Fin 12), (s.console.get n).breakPresent = false → (s.console.get n).assembler = .hunting →
    (s.console.get n).fifo = [] → exec (.consoleCharacterReceived n 0x7E false) s = .next { s with
      console := s.console.set n { s.console.get n with
        assembler := .assembling [0x7E] false, pending := .empty, gapRaised := false } }) ∧
  (∀ (s : State) (n : Fin 12), (s.console.get n).breakPresent = false → (s.console.get n).gapRaised = false →
    (s.console.get n).fifo = [] →
    (∀ bytes damaged, (s.console.get n).assembler = .assembling bytes damaged → exec (.gap n) s = .next { s with
      console := s.console.set n { s.console.get n with
        assembler := .hunting, gapRaised := true
        counters := { (s.console.get n).counters with gapTimeouts := bump (s.console.get n).counters.gapTimeouts } } }) ∧
    ((s.console.get n).assembler = .hunting → exec (.gap n) s = .next { s with
      console := s.console.set n { s.console.get n with gapRaised := true } })) ∧
  ∀ (s : State) (n : Fin 12) (bytes : List Byte) (damaged framing : Bool) (b : Byte), (s.console.get n).breakPresent = false →
    (s.console.get n).fifo = [] → (s.console.get n).assembler = .assembling bytes damaged →
    let l := s.console.get n
    let c := l.counters
    let counted : LineCounters := if framing then { c with framingErrors := bump c.framingErrors } else c
    let spoilt := damaged || framing || l.pending.loss
    let result (a : Assembler) (k : LineCounters) : Host.Outcome State Fault Refusal := .next { s with
      console := s.console.set n { l with assembler := a, pending := .empty, gapRaised := false, counters := k } }
    let first : Assembler := if b = 0x7E ∧ framing = false then .assembling [0x7E] false else .hunting
    let formatError := result .hunting { counted with formatErrors := bump c.formatErrors }
    let completed (f : HeldFrame) := result (.waiting f) { counted with completed := bump c.completed }
    let outcome := exec (.consoleCharacterReceived n b framing) s
    (l.pending.brk = true → outcome = result first counted) ∧
    (l.pending.brk = false → l.pending.gap = true → outcome = result first { counted with gapTimeouts := bump c.gapTimeouts }) ∧
    (l.pending.brk = false → l.pending.gap = false →
      (bytes = [0x7E] →
        outcome = if 1 ≤ b.toNat ∧ b.toNat ≤ 32 then result (.assembling [0x7E, b] spoilt) counted else formatError) ∧
      (∀ len rest, bytes = 0x7E :: len :: rest → rest.length < len.toNat →
        outcome = result (.assembling (bytes ++ [b]) spoilt) counted) ∧
      ∀ len kind body, bytes = 0x7E :: len :: kind :: body → body.length + 1 = len.toNat →
        (spoilt = true ∨ sum8 (bytes ++ [b]) ≠ 0 →
          outcome = result .hunting { counted with checkFailures := bump c.checkFailures }) ∧
        (spoilt = false → sum8 (bytes ++ [b]) = 0 →
          (kind ≠ 0x01 → kind ≠ 0x02 → outcome = result .hunting { counted with unknownKinds := bump c.unknownKinds }) ∧
          (kind = 0x02 → outcome = if len = 1 then completed .ping else formatError) ∧
          (kind = 0x01 → len ≠ 20 → outcome = formatError) ∧
          ∀ selector (channels : Tab 12 Byte) buttons present element action output value, kind = 0x01 →
            body = selector :: Tab.toList channels ++ [buttons, present, element, action, output, value] →
            let frame (request : Option ElementRequest) : ControlFrame :=
              { selector, channels := .build fun k => channels.get ⟨2 * k.val, by omega⟩ ++ channels.get ⟨2 * k.val + 1, by omega⟩
                buttons, request }
            (present = 0 → outcome = completed (.control (frame none))) ∧
            (present = 1 → ∀ a, (action = 1 ∧ a = .claim) ∨ (action = 2 ∧ a = .release) ∨ (action = 3 ∧ a = .actuate) →
              outcome = completed (.control (frame (some ⟨element, a, output, value⟩)))) ∧
            ((present ≠ 0 ∧ present ≠ 1) ∨ (present = 1 ∧ action ≠ 1 ∧ action ≠ 2 ∧ action ≠ 3) → outcome = formatError)))

/-- R53, R85: the start of a break sets break-present, counts it and latches the station's stop: the silence timer stops, the
targets and buttons of the station's slots are zeroed, and a STATION_STOP report is queued when the latch was clear. -/
def Obligations.BreakStartStopsTheStation : Prop :=
  ∀ (s : State) (n : Fin 12), (s.console.get n).breakPresent = false → ∃ t, exec (.breakStart n) s = .next t ∧
    (t.console.get n).breakPresent = true ∧ (t.console.get n).counters.breaks = bump (s.console.get n).counters.breaks ∧
    (t.stations.get n).stopLatch = true ∧
    ((s.stations.get n).stopLatch = false → (t.stations.get n).silence = none ∧ t.trunk = (s.report (.stationStop n true)).trunk
      ∧ (∀ i, (s.slotEntry i).station = some n → (t.slots.get i).targets = .fill 0 ∧ (t.slots.get i).buttons = 0)
      ∧ ∀ e, ((s.claims.get e).holder = some n → n ∉ (s.claims.get e).waiters) →
          (t.claims.get e).holder ≠ some n ∧ n ∉ (t.claims.get e).waiters) ∧
    ((s.stations.get n).stopLatch = true → t = { s with console := t.console }) ∧
    t = { s with
      console := t.console, stations := t.stations, slots := t.slots, claims := t.claims, trunk := t.trunk }

/-- R85, R92: the end of a break clears break-present and begins a new idle period; the end of an outward frame takes it from
the queue, and the next frame of the queue is in transmission. Model convention: log entry 28. -/
def Obligations.BreakEndAndFrameSent : Prop :=
  (∀ (s : State) (n : Fin 12), (s.console.get n).breakPresent = true → exec (.breakEnd n) s = .next { s with
    console := s.console.set n { s.console.get n with breakPresent := false, gapRaised := false } }) ∧
  ∀ (s : State) (n : Fin 12) (f : ConsoleOut) (rest : List ConsoleOut), (s.console.get n).queue = f :: rest →
    exec (.consoleFrameSent n) s = .next { s with
      console := s.console.set n { s.console.get n with queue := rest, wire := (rest.head?.map ConsoleOut.bytes).getD [] } }

/-! ## Radio -/

/-- R99 to R101: APPLY_LINK, with both clocks IDLE or ARMED, makes the pending profile active, drops every bound slot to
SEARCHING with its last-sent values at 0, empties the join answers and begins the next cycle with no window; it is refused
WRONG_STATE when a clock is RUNNING, PAUSED or ENDED. -/
def Obligations.ApplyLinkDropsTheBindings : Prop :=
  ∀ (s : State) (tag : Byte), s.Ready →
    ((∃ h, (s.clocks.get h).state ≠ .idle ∧ (s.clocks.get h).state ≠ .armed) →
      exec (.applyLink tag) s = .next (s.replied tag .wrongState)) ∧
    ((∀ h, (s.clocks.get h).state = .idle ∨ (s.clocks.get h).state = .armed) → ∃ t, exec (.applyLink tag) s = .next t ∧
      t.radio.profile = s.radio.pendingProfile ∧ t.radio.pendingProfile = s.radio.pendingProfile ∧ t.radio.answers = [] ∧
      t.radio.windows = [] ∧ t.radio.cycle = s.radio.cycle + 1 ∧ t.radio.part = .beacon ∧
      (∀ i, t.links.get i = if (s.links.get i).state = .linked ∨ (s.links.get i).state = .lost then
          { s.links.get i with state := .searching, liveness := none } else s.links.get i) ∧
      (∀ i, t.slots.get i = if (s.links.get i).state = .linked ∨ (s.links.get i).state = .lost then
          { s.slots.get i with lastSent := .fill 0 } else s.slots.get i) ∧
      t = { s.replied tag .ok with radio := t.radio, links := t.links, slots := t.slots })

/-- R101, R102: a cycle begins with the next number; its windows are the bound slots in ascending order, its length the period
or the need, stretched when the need is larger; with the transceiver ready the first two join answers leave the queue. Model
convention: log entry 10, and log entry 34 for a cycle begun out of its place. -/
def Obligations.CycleBeginFixesTheWindows : Prop :=
  ∀ (s : State) (ready : Bool), ∃ t, exec (.cycleBegin ready) s = .next t ∧
    t.radio.cycle = s.radio.cycle + 1 ∧ t.radio.part = .beacon ∧ t.radio.unknownJoin = false ∧
    (∀ i, i ∈ t.radio.windows ↔ (s.links.get i).state = .linked ∨ (s.links.get i).state = .lost) ∧
    t.radio.windows.Pairwise (· < ·) ∧ t.radio.toCome = t.radio.windows ∧
    t.radio.length = max s.radio.profile.period (1 + t.radio.windows.length + (if s.radio.profile.join then 2 else 0)) ∧
    (t.radio.stretched = true ↔ s.radio.profile.period < 1 + t.radio.windows.length + (if s.radio.profile.join then 2 else 0)) ∧
    t.radio.answers = (if ready then s.radio.answers.drop 2 else s.radio.answers) ∧ t = { s with radio := t.radio }

/-- R48, R50, R63, R72, R103: while the field stop of a slot's half is latched, the DOWNLINK of its window carries enable 0,
six channel values of 0 and no button, and the last-sent values become 0; the targets stay. R50, R73, R74, R103: the DOWNLINK
of an ENABLED slot with drive admitted moves each channel from its last-sent value toward its target by at most the slew step,
and carries the slot's buttons. R105: with the transceiver not ready the window begins without a DOWNLINK, and is counted.
Model convention: log entry 10. -/
def Obligations.DownlinksFollowThePermission : Prop :=
  (∀ (s : State) (i : Fin 24) (rest : List (Fin 24)), (s.radio.part = .beacon ∨ s.radio.part = .between) →
    s.radio.toCome = i :: rest → (s.clocks.get (s.slotHalf i)).fieldStop = true →
    ∃ t, exec (.slotWindowBegin true) s = .next t ∧ t.radio.out = s.downlink i false (.fill 0) 0 ∧
      t.slots = s.slots.set i { s.slots.get i with lastSent := .fill 0 } ∧ t.radio.part = .window i false false ∧
      t.radio.toCome = rest ∧ t = { s with radio := t.radio, slots := t.slots }) ∧
  (∀ (s : State) (i : Fin 24) (rest : List (Fin 24)), (s.radio.part = .beacon ∨ s.radio.part = .between) →
    s.radio.toCome = i :: rest → ∃ t, exec (.slotWindowBegin false) s = .next t ∧ t = { s with radio := t.radio } ∧
      t.radio.part = .window i false false ∧ t.radio.toCome = rest ∧ t.radio.out = s.radio.out ∧
      t.radio.counters = { s.radio.counters with notReady := bump s.radio.counters.notReady }) ∧
  ∀ (s : State) (i : Fin 24) (rest : List (Fin 24)), (s.radio.part = .beacon ∨ s.radio.part = .between) →
    s.radio.toCome = i :: rest → s.permission i = .none → s.driveAdmitted i = true →
    ∃ t, exec (.slotWindowBegin true) s = .next t ∧
      (∀ k, (t.slots.get i).lastSent.get k = (s.slots.get i).lastSent.get k
        + max (-((s.slotEntry i).slew : Int)) (min ((s.slots.get i).targets.get k - (s.slots.get i).lastSent.get k)
            ((s.slotEntry i).slew : Int))) ∧
      t.radio.out = s.downlink i true (t.slots.get i).lastSent (s.slots.get i).buttons ∧
      (t.slots.get i).targets = (s.slots.get i).targets ∧ (∀ j, j ≠ i → t.slots.get j = s.slots.get j) ∧
      t = { s with radio := t.radio, slots := t.slots }

/-- R111: at the end of the window of a bound slot without a good REPLY one missed reply is counted; otherwise none is. R111,
R112: the first REPLY of a window, good for its slot, reloads liveness, stores battery and status and makes the slot LINKED,
with a LINK report of cause REPLY when it was LOST. R91, R93, R112: its TELEMETRY frame, for a slot whose station is present,
replaces the one of its selector that has not begun, or joins the tail below four frames, or is dropped and counted; no other
console line changes. Model convention: log entry 10. -/
def Obligations.WindowsAreJudged : Prop :=
  (∀ (s : State) (i : Fin 24) (seen good : Bool), s.radio.part = .window i seen good →
    ∃ t, exec .slotWindowEnd s = .next t ∧
      t.links = (if ((s.links.get i).state = .linked ∨ (s.links.get i).state = .lost) ∧ good = false then
          s.links.set i { s.links.get i with missed := bump (s.links.get i).missed } else s.links) ∧
      t.radio.part = (if s.radio.toCome = [] then (if s.radio.profile.join then .join else .rest) else .between) ∧
      t = { s with radio := t.radio, links := t.links }) ∧
  ∀ (s : State) (i : Fin 24) (good : Bool) (battery : BitVec 16) (status : Byte) (payload : List Byte),
    s.radio.part = .window i false good → ((s.links.get i).state = .linked ∨ (s.links.get i).state = .lost) →
    payload.length ≤ 12 →
    ∃ t, exec (.replyReceived s.radio.profile.arena (num8 i.val) (s.slotEntry i).kit battery status payload) s = .next t ∧
      t.links = s.links.set i
        { s.links.get i with state := .linked, liveness := some (s.slotEntry i).timeout, battery := battery, status := status } ∧
      t.radio = { s.radio with part := .window i true true } ∧
      t.trunk = (if (s.links.get i).state = .lost then (s.report (.link i .linked .reply (s.slotEntry i).kit 0)).trunk
        else s.trunk) ∧
      (∀ n, (s.slotEntry i).station = some n → (s.stationEntry n).team ≠ 0 →
        TelemetryPlaced (s.console.get n) (t.console.get n) (s.slotEntry i).selector
          (.telemetry (s.slotEntry i).selector battery status payload)
        ∧ ∀ m, m ≠ n → t.console.get m = s.console.get m) ∧
      ((∀ n, (s.slotEntry i).station = some n → (s.stationEntry n).team = 0) → t.console = s.console) ∧
      t = { s with links := t.links, radio := t.radio, trunk := t.trunk, console := t.console }

/-- R107 to R110: a JOIN of this arena in the join window whose kit ID one slot holds in the active banks binds a SEARCHING slot
or restarts a bound one: LINKED, liveness loaded, last-sent values 0, a LINK report, and an answer at the tail of the queue; none
when the kit has one there, and a count when four wait. -/
def Obligations.KnownJoinBindsTheSlot : Prop :=
  ∀ (s : State) (h : Half) (i : Fin 24) (kit : BitVec 32) (kitClass : Byte), s.radio.part = .join → kit ≠ 0 →
    ((s.active h).slots.get i).kit = kit → (∀ g j, ((s.active g).slots.get j).kit = kit → g = h ∧ j = i) → s.slotHalf i = h →
    (s.links.get i).state ≠ .vacant → ∃ t, exec (.joinReceived s.radio.profile.arena kit kitClass) s = .next t ∧
      t.links = s.links.set i
        { s.links.get i with state := .linked, liveness := some ((s.active h).slots.get i).timeout } ∧
      t.slots = s.slots.set i { s.slots.get i with lastSent := .fill 0 } ∧
      ((∃ a ∈ s.radio.answers, a.kit = kit) → t.radio = s.radio) ∧
      ((∀ a ∈ s.radio.answers, a.kit ≠ kit) → t.radio = if s.radio.answers.length < 4 then
          { s.radio with answers := s.radio.answers ++ [⟨kit, i⟩] }
        else { s.radio with counters := { s.radio.counters with answersDropped := bump s.radio.counters.answersDropped } }) ∧
      t.trunk = (s.report (.link i .linked (if (s.links.get i).state = .searching then .join else .restart) kit kitClass)).trunk ∧
      t = { s with links := t.links, slots := t.slots, radio := t.radio, trunk := t.trunk }

/-- R104, R107, R181: a damaged frame, a JOIN of another arena, a JOIN outside the join window, a REPLY outside a slot window
and a JOIN of no active kit ID are counted; the last is reported at most once in a cycle. R103: a REPLY after the one accepted
in a window has no effect. Model convention: log entry 10, and log entry 31 for a further REPLY of another arena. -/
def Obligations.StrayRadioFramesAreCounted : Prop :=
  (∀ (s : State) (whole : Bool) (bytes : List Byte), (whole = false ∨ withCrc (bytes.take (bytes.length - 2)) ≠ bytes) →
    exec (.radioFrameDamaged whole bytes) s = .next { s with radio := { s.radio with
      counters := { s.radio.counters with errors := bump s.radio.counters.errors } } }) ∧
  (∀ (s : State) (arena : Byte) (kit : BitVec 32) (kitClass : Byte), (s.radio.part ≠ .join ∨ arena ≠ s.radio.profile.arena) →
    exec (.joinReceived arena kit kitClass) s = .next { s with radio := { s.radio with
      counters := { s.radio.counters with foreign := bump s.radio.counters.foreign } } }) ∧
  (∀ (s : State) (arena slot : Byte) (kit : BitVec 32) (battery : BitVec 16) (status : Byte) (payload : List Byte),
    ((∀ i seen good, s.radio.part ≠ .window i seen good) →
      exec (.replyReceived arena slot kit battery status payload) s = .next { s with radio := { s.radio with
        counters := { s.radio.counters with foreign := bump s.radio.counters.foreign } } }) ∧
    (∀ i good, s.radio.part = .window i true good → exec (.replyReceived arena slot kit battery status payload) s = .next s)) ∧
  ∀ (s : State) (kit : BitVec 32) (kitClass : Byte), s.radio.part = .join → kit ≠ 0 →
    (∀ h j, ((s.active h).slots.get j).kit ≠ kit) → exec (.joinReceived s.radio.profile.arena kit kitClass) s = .next { s with
      radio := { s.radio with
        unknownJoin := true, counters := { s.radio.counters with unknownJoins := bump s.radio.counters.unknownJoins } }
      trunk := if s.radio.unknownJoin then s.trunk else (s.report (.joinUnknown kit kitClass)).trunk }

/-- R113: the expiry of a LINKED slot's liveness timer makes the slot LOST, sets its sticky lost flag, removes its join answer
and queues a LINK report of cause EXPIRY. Model convention: log entry 7. -/
def Obligations.LivenessExpiryLosesTheSlot : Prop :=
  ∀ (s : State) (i : Fin 24), (s.links.get i).state = .linked → (s.links.get i).liveness ≠ none →
    exec (.livenessExpiry i) s = .next { s with
      links := s.links.set i { s.links.get i with state := .lost, liveness := none }
      slots := s.slots.set i { s.slots.get i with stickyLost := true }
      radio := { s.radio with answers := s.radio.answers.filter fun a => a.slot ≠ i }
      trunk := (s.report (.link i .lost .expiry (s.slotEntry i).kit 0)).trunk }

/-! ## Elements and the element bus -/

/-- R118, R119: a consistent ELEMENT record for an element whose clock is not started is stored within its ranges and resets
the element: outputs at their starting states, online UNKNOWN with no misses, claim emptied, baselines UNKNOWN, an answer in
flight void. An index outside 0-31 is refused BAD_INDEX, and a write to an element of a started clock WRONG_STATE.
R119: a void poll ends with its answer, whatever it holds, or without one, and counts neither as good nor as a miss. Model
convention: log entry 26, log entry 12 for the bad answers that it does not count, log entry 35 for a void poll without one. -/
def Obligations.ElementWriteResetsTheElement : Prop :=
  (∀ (s : State) (tag clock : Byte) (e : Fin 32) (enabled : Bool) (owner : Owner) (credit : Option Alliance) (mask : Byte)
    (limit : BitVec 16) (holdPoints : Byte) (modes : Fin 2 → SensorMode) (points : Fin 2 → Byte) (kinds : Fin 2 → OutputMode)
    (safe pulse period duty : Fin 2 → Byte), s.Ready → (s.clocks.get (s.elementHalf e)).state.started = false →
    (credit = none ∨ owner = .field) → ((limit = 0 ∧ holdPoints = 0) ∨ owner = .shared) →
    let entry : ElementEntry :=
      { enabled := enabled, owner := owner, credit := credit, mask := mask.extractLsb' 0 6, holdLimit := min limit.toNat 6000
        holdPoints := holdPoints.toNat
        sensors := .build fun k => ⟨modes k, (points k).toNat⟩
        outputs := .build fun k =>
          ⟨kinds k, safe k, max 1 (pulse k).toNat, max 10 (period k).toNat, max 1 (min (duty k).toNat 99)⟩ }
    let inRange : Prop := limit.toNat ≤ 6000 ∧ ∀ k, pulse k ≠ 0 ∧ 10 ≤ (period k).toNat ∧ duty k ≠ 0 ∧ (duty k).toNat ≤ 99
    ∃ t code, exec (.writeElement tag clock (num8 e.val)
        { enabled := codeYN enabled, owner := codeOwner owner, credit := codeAlliance credit, mask := mask, holdLimit := limit
          holdPoints := holdPoints, sensors := .build fun k => ⟨codeSensorMode (modes k), points k⟩
          outputs := .build fun k => ⟨codeOutputMode (kinds k), safe k, pulse k, period k, duty k⟩ }) s = .next t ∧
      (inRange → code = .ok) ∧ (¬ inRange → code = .clamped) ∧
      t = { s.replied tag code with
        entries := s.entries.set e entry
        outputs := s.outputs.set e (.build fun k => (kinds k).starting)
        elements := s.elements.set e { s.elements.get e with online := .unknown, misses := 0 }
        claims := s.claims.set e Claim.empty
        sensors := t.sensors
        bus := { s.bus with inFlight := t.bus.inFlight } } ∧
      (∀ k, (t.sensors.get e).get k = { (s.sensors.get e).get k with baseline := none }) ∧
      (∀ x, x ≠ e → t.sensors.get x = s.sensors.get x) ∧
      (∀ void, s.bus.inFlight = .poll e void → t.bus.inFlight = .poll e true) ∧
      (∀ x void, x ≠ e → s.bus.inFlight = .poll x void → t.bus.inFlight = .poll x void)) ∧
  (∀ (s : State) (tag clock index : Byte) (record : ElementRecord), s.Ready →
    (32 ≤ index.toNat → exec (.writeElement tag clock index record) s = .next (s.replied tag .badIndex)) ∧
    (∀ e : Fin 32, index = num8 e.val → (s.clocks.get (s.elementHalf e)).state.started = true →
      exec (.writeElement tag clock index record) s = .next (s.replied tag .wrongState))) ∧
  ∀ (s : State) (e : Fin 32) (answer : Option BusFrame), s.bus.inFlight = .poll e true →
    ∃ t, exec (.pollEnd answer) s = .next t ∧ t.bus.inFlight = .none ∧ t.bus.badAnswers = s.bus.badAnswers ∧
      (s.bus.requested = s.bus.actual → t.trunk = s.trunk) ∧ t = { s with bus := t.bus, trunk := t.trunk }

/-- R122, R125: ELEMENT_OUTPUT of an enabled element whose half is not stopped applies its value to the output's mode state;
it is refused WRONG_STATE otherwise. An element outside 0-31 is refused BAD_INDEX, an output other than 0 or 1 BAD_VALUE.
R123: an ACTIVE pulse that reaches 0 is IDLE, and a RUNNING blink that reaches its period returns to position 0; no other
output and nothing else changes. Model convention: log entry 7 for the two expiries. -/
def Obligations.OutputsTakeValuesAndTime : Prop :=
  (∀ (s : State) (tag value : Byte) (e : Fin 32) (k : Fin 2), s.Ready →
    (((s.entries.get e).enabled = false ∨ (s.clocks.get (s.elementHalf e)).fieldStop = true) →
      exec (.elementOutput tag (num8 e.val) (num8 k.val) value) s = .next (s.replied tag .wrongState)) ∧
    ((s.entries.get e).enabled = true → (s.clocks.get (s.elementHalf e)).fieldStop = false →
      ∃ t, exec (.elementOutput tag (num8 e.val) (num8 k.val) value) s = .next t ∧
        t = { s.replied tag .ok with outputs := t.outputs } ∧
        (∀ x y, (x ≠ e ∨ y ≠ k) → (t.outputs.get x).get y = (s.outputs.get x).get y) ∧
        (∀ held, (s.outputs.get e).get k = .level held → (t.outputs.get e).get k = .level value) ∧
        (∀ left, (s.outputs.get e).get k = .pulse left → (t.outputs.get e).get k =
          .pulse (if value = 0 then none else some (((s.entries.get e).outputs.get k).pulse * 10))) ∧
        (∀ on, (s.outputs.get e).get k = .toggle on → (t.outputs.get e).get k = .toggle (if value = 0 then on else !on)) ∧
        ∀ position, (s.outputs.get e).get k = .blink position → (t.outputs.get e).get k =
          .blink (if value = 0 then none else some (position.getD 0)))) ∧
  (∀ (s : State) (tag element output value : Byte), s.Ready →
    (32 ≤ element.toNat → output.toNat < 2 → exec (.elementOutput tag element output value) s = .next (s.replied tag .badIndex)) ∧
    (element.toNat < 32 → 2 ≤ output.toNat →
      exec (.elementOutput tag element output value) s = .next (s.replied tag .badValue))) ∧
  ((∀ (s : State) (e : Fin 32) (k : Fin 2) (left : Nat), (s.outputs.get e).get k = .pulse (some left) →
    exec (.pulseExpiry e k) s = .next { s with outputs := s.outputs.set e ((s.outputs.get e).set k (.pulse none)) }) ∧
  ∀ (s : State) (e : Fin 32) (k : Fin 2) (position : Nat), (s.outputs.get e).get k = .blink (some position) →
    exec (.blinkPeriodEnd e k) s = .next { s with outputs := s.outputs.set e ((s.outputs.get e).set k (.blink (some 0))) })

/-- R131, R132: BUS_MODE stores the requested mode and the sweep period within 5-50 ms. With a transaction in flight, or with
the actual mode requested, nothing else changes but that a sweep that waits for the one in progress is judged against the new
period, which governs every sweep after it. Otherwise the actual mode changes at once, with a BUS_MODE report: to MANUAL the
sweep is abandoned, to AUTO one starts with the position at none, and ends at once with no enabled element. A mode other than
AUTO or MANUAL is refused BAD_VALUE. Model convention: log entry 18, and log entry 29 for the sweep that waits. -/
def Obligations.BusModeChangesTheMode : Prop :=
  (∀ (s : State) (tag mode period : Byte), s.Ready → 2 ≤ mode.toNat →
    exec (.busMode tag mode period) s = .next (s.replied tag .badValue)) ∧
  ∀ (s : State) (tag period : Byte) (m : BusMode), s.Ready →
    let code : ResultCode := if 5 ≤ period.toNat ∧ period.toNat ≤ 50 then .ok else .clamped
    let stored := max 5 (min period.toNat 50)
    let since := if s.bus.due then max s.bus.elapsed s.bus.period else s.bus.elapsed
    let bus : Bus := { s.bus with
      requested := m, period := stored, elapsed := since
      due := s.bus.sweeping && decide (s.bus.actual = .auto) && decide (stored ≤ since) }
    ((s.bus.inFlight ≠ .none ∨ s.bus.actual = m) →
      exec (.busMode tag (codeBusMode m) period) s = .next { s.replied tag code with bus := bus }) ∧
    (s.bus.inFlight = .none → s.bus.actual = .auto → m = .manual →
      exec (.busMode tag (codeBusMode m) period) s = .next { (s.replied tag code).report (.busMode .manual) with
        bus := { bus with actual := .manual, sweeping := false, position := none, due := false } }) ∧
    (s.bus.inFlight = .none → s.bus.actual = .manual → m = .auto →
      exec (.busMode tag (codeBusMode m) period) s = .next { (s.replied tag code).report (.busMode .auto) with
        bus := { bus with
          actual := .auto, sweeping := decide (∃ e, (s.entries.get e).enabled = true), position := none, elapsed := 0
          due := false } })

/-- R127, R135, R136: in AUTO and outside the reset wait a new sweep starts with the position at none, and ends at once when
no element is enabled; while one is in progress it waits. The end of the reset wait starts the first sweep in AUTO. Model
convention: log entry 29. -/
def Obligations.SweepsStart : Prop :=
  (∀ s : State, s.bus.actual = .auto → s.bus.resetWait = false → ∃ t, exec .sweepStart s = .next t ∧ t = { s with bus := t.bus } ∧
    (s.bus.sweeping = true → t.bus = { s.bus with due := true }) ∧
    (s.bus.sweeping = false → t.bus.position = none ∧ t.bus.elapsed = 0 ∧
      (t.bus.sweeping = true ↔ ∃ e, (s.entries.get e).enabled = true))) ∧
  ∀ s : State, s.bus.resetWait = true → s.bus.actual = .auto → ∃ t, exec .busResetWaitEnd s = .next t ∧ t = { s with bus := t.bus } ∧
    t.bus.resetWait = false ∧
    (s.bus.sweeping = false → (t.bus.sweeping = true ↔ ∃ e, (s.entries.get e).enabled = true))

/-- R121, R124, R127, R128: with the bus free in a sweep, the lowest enabled element above the sweep position is polled: the frame
carries its address and the effective values of its outputs, which become its last sent values; while its half is stopped they
are its safe values, otherwise its mode outputs: a LEVEL its held value, a PULSE 255 while ACTIVE, a TOGGLE 255 while ON, a BLINK
255 while RUNNING with its position below the on-time, and 0 else. -/
def Obligations.PollCarriesTheEffectiveValues : Prop :=
  ∀ (s : State) (e : Fin 32), s.bus.actual = .auto → s.bus.resetWait = false → s.bus.sweeping = true → s.bus.inFlight = .none →
    (s.entries.get e).enabled = true → (∀ p, s.bus.position = some p → p < e) →
    (∀ x, x < e → (s.entries.get x).enabled = true → ∃ p, s.bus.position = some p ∧ x ≤ p) →
    ∃ t, exec .pollBegin s = .next t ∧ t.bus.inFlight = .poll e false ∧ t.bus.position = some e ∧
      (∃ check, t.bus.wire = [num8 (e.val + 1), 0, (t.elements.get e).lastSent.get 0, (t.elements.get e).lastSent.get 1, check]
        ∧ sum8 t.bus.wire = 0) ∧
      ((s.clocks.get (s.elementHalf e)).fieldStop = true →
        ∀ k, (t.elements.get e).lastSent.get k = ((s.entries.get e).outputs.get k).safe) ∧
      ((s.clocks.get (s.elementHalf e)).fieldStop = false → ∀ k held, (s.outputs.get e).get k = .level held →
        (t.elements.get e).lastSent.get k = held) ∧
      ((s.clocks.get (s.elementHalf e)).fieldStop = false → ∀ k,
        (∀ left, (s.outputs.get e).get k = .pulse left → (t.elements.get e).lastSent.get k = if left.isSome then 255 else 0) ∧
        (∀ on, (s.outputs.get e).get k = .toggle on → (t.elements.get e).lastSent.get k = if on then 255 else 0) ∧
        ((s.outputs.get e).get k = .blink none → (t.elements.get e).lastSent.get k = 0) ∧
        ∀ position, (s.outputs.get e).get k = .blink (some position) → (t.elements.get e).lastSent.get k =
          let c := (s.entries.get e).outputs.get k
          if position < c.duty * (c.period * 10) / 100 then 255 else 0) ∧
      (∀ x, x ≠ e → t.elements.get x = s.elements.get x) ∧ t = { s with bus := t.bus, elements := t.elements }

/-- R128, R129: a poll answer of 5 whole bytes with sum 0 and the polled address makes the element ONLINE with no misses, with an
ELEMENT_STATE report when it was not ONLINE; with both its sensors OFF nothing else changes but the bus. -/
def Obligations.GoodAnswerMakesOnline : Prop :=
  ∀ (s : State) (e : Fin 32) (levels counters status check : Byte), s.bus.inFlight = .poll e false →
    num8 (e.val + 1) + levels + counters + status + check = 0 → (∀ k, ((s.entries.get e).sensors.get k).mode = .off) →
    s.bus.requested = s.bus.actual →
    ∃ t, exec (.pollEnd (some ⟨[num8 (e.val + 1), levels, counters, status, check], false⟩)) s = .next t ∧
      t.elements = s.elements.set e { s.elements.get e with misses := 0, online := .online } ∧
      t.trunk = (if (s.elements.get e).online = .online then s.trunk else (s.report (.elementState e .online)).trunk) ∧
      t.bus.inFlight = .none ∧ t.bus.badAnswers = s.bus.badAnswers ∧
      t = { s with elements := t.elements, trunk := t.trunk, bus := t.bus }

/-- R154, R156, R158: a COUNT sensor turns a good answer into the counter's difference from its baseline modulo 16, into 0 with an
UNKNOWN baseline or a RESTARTED answer: the count rises by it, the baseline and the level are those reported, and a first event in
a started match captures the elapsed tenths. The points of an element of owner RED go to RED while its match is started.
R154 to R156, R158, R161: either sensor of an ONLINE element, with the other OFF. A LEVEL sensor records one change where the level
differs from a known last level, and scores nothing. Points go to the alliance of the owner, of a SHARED element's holder, or of
a FIELD element's credit, if there is one. An event is told by an ELEMENT_EVENT record, or taken up by the sensor's waiting record
that has not begun transmission, in its place; without an event no record changes. -/
def Obligations.CountSensorCountsModulo16 : Prop :=
  (∀ (s : State) (e : Fin 32) (levels counters status check : Byte), s.bus.inFlight = .poll e false →
    num8 (e.val + 1) + levels + counters + status + check = 0 → ((s.entries.get e).sensors.get 0).mode = .count →
    let n : Nat :=
      if status.getLsbD 0 then 0
      else match ((s.sensors.get e).get 0).baseline with
        | some base => (counters.toNat % 16 + 16 - base.toNat) % 16
        | none => 0
    let x := (s.sensors.get e).get 0
    let c := s.clocks.get (s.elementHalf e)
    let captures : Bool := n ≠ 0 && c.state.started && !x.captured
    ∃ t, exec (.pollEnd (some ⟨[num8 (e.val + 1), levels, counters, status, check], false⟩)) s = .next t ∧
      (t.sensors.get e).get 0 =
        { count := min (x.count + n) 65535, level := if levels.getLsbD 0 then .high else .low
          baseline := some (counters.extractLsb' 0 4), captured := x.captured || captures
          captureTime := if captures then c.elapsed else x.captureTime } ∧
      ((s.entries.get e).owner = .red → ((s.entries.get e).sensors.get 1).mode = .off →
        t.scores = (if n ≠ 0 ∧ c.state.started = true then
            s.scores.set (s.elementHalf e)
              { s.scores.get (s.elementHalf e) with
                red := min ((s.scores.get (s.elementHalf e)).red + n * ((s.entries.get e).sensors.get 0).points) 65535 }
          else s.scores))) ∧
  ∀ (s : State) (e : Fin 32) (k : Fin 2) (levels counters status check : Byte), s.bus.inFlight = .poll e false →
    num8 (e.val + 1) + levels + counters + status + check = 0 → (∀ j, j ≠ k → ((s.entries.get e).sensors.get j).mode = .off) →
    ((s.entries.get e).sensors.get k).mode ≠ .off → (s.elements.get e).online = .online → s.bus.requested = s.bus.actual →
    let x := (s.sensors.get e).get k
    let entry := s.entries.get e
    let counting := (entry.sensors.get k).mode = .count
    let c := s.clocks.get (s.elementHalf e)
    let level : Level := if levels.getLsbD k.val then .high else .low
    let counter : BitVec 4 := counters.extractLsb' (4 * k.val) 4
    let n : Nat :=
      if counting then
        if status.getLsbD 0 then 0
        else match x.baseline with
          | some base => (counter.toNat + 16 - base.toNat) % 16
          | none => 0
      else if x.level = .unknown ∨ x.level = level then 0 else 1
    let captures : Bool := n ≠ 0 && c.state.started && !x.captured
    let y : Sensor :=
      { count := if counting ∨ n ≠ 0 then min (x.count + n) 65535 else x.count
        level := level, baseline := if counting then some counter else x.baseline
        captured := x.captured || captures, captureTime := if captures then c.elapsed else x.captureTime }
    let side : Option Alliance := match entry.owner with
      | .red => some .red
      | .blue => some .blue
      | .field => entry.credit
      | .shared => (s.claims.get e).holder.bind fun m => (s.stationEntry m).alliance
    let queue := if s.trunk.tx = .report then s.trunk.reports.tail else s.trunk.reports
    ∃ t, exec (.pollEnd (some ⟨[num8 (e.val + 1), levels, counters, status, check], false⟩)) s = .next t ∧
      t.sensors = s.sensors.set e ((s.sensors.get e).set k y) ∧
      t.scores = (if counting ∧ n ≠ 0 ∧ c.state.started = true then
          s.scores.set (s.elementHalf e) ((s.scores.get (s.elementHalf e)).plus (n * (entry.sensors.get k).points) side)
        else s.scores) ∧
      (n = 0 → t.trunk = s.trunk) ∧
      (n ≠ 0 → (∀ r ∈ queue, r.report.isEvent e k = false) →
        t.trunk = (s.report (.elementEvent e k n level y.captured y.captureTime)).trunk) ∧
      (∀ before seq delta was had time after, n ≠ 0 → queue = before ++ ⟨seq, .elementEvent e k delta was had time⟩ :: after →
        (∀ r ∈ before, r.report.isEvent e k = false) → t.trunk = { s.trunk with
          reports := (if s.trunk.tx = .report then s.trunk.reports.take 1 else []) ++ before
            ++ ⟨seq, .elementEvent e k (min (delta + n) 255) level y.captured y.captureTime⟩ :: after }) ∧
      t = { s with sensors := t.sensors, scores := t.scores, elements := t.elements, trunk := t.trunk, bus := t.bus }

/-- R130: a missed poll (no answer, or one that is not good) counts a missed answer and, below the third in a row, one miss; the
third sets the element OFFLINE with an ELEMENT_STATE report, and its holder and waiters are flushed with reason OFFLINE. In OFFLINE
the miss count stays and nothing more happens; an OFFLINE element is polled like any other. A good answer sets the count back to
0 and the element ONLINE. -/
def Obligations.MissedPollCountsToOffline : Prop :=
  (∀ (s : State) (e : Fin 32) (answer : Option BusFrame), s.bus.inFlight = .poll e false →
    (∀ f, answer = some f → f.stopBad = true ∨ f.bytes.length ≠ 5 ∨ sum8 f.bytes ≠ 0 ∨ f.bytes.head? ≠ some (num8 (e.val + 1))) →
    let x := s.elements.get e
    let c := s.claims.get e
    ∃ t, exec (.pollEnd answer) s = .next t ∧ t.bus.inFlight = .none ∧
      t.bus.badAnswers = (if answer.isSome then bump s.bus.badAnswers else s.bus.badAnswers) ∧
      (x.online ≠ .offline → x.misses < 2 →
        t.elements = s.elements.set e { x with misses := x.misses + 1, missedAnswers := bump x.missedAnswers }
        ∧ t.claims = s.claims ∧ t.console = s.console ∧ (s.bus.requested = s.bus.actual → t.trunk = s.trunk)) ∧
      (x.online ≠ .offline → 2 ≤ x.misses →
        t.elements = s.elements.set e { x with misses := 3, online := .offline, missedAnswers := bump x.missedAnswers }
        ∧ (t.claims.get e).holder = none ∧ (t.claims.get e).waiters = []
        ∧ (c.holder ≠ none ∨ c.waiters ≠ [] → t.claims.get e = Claim.empty) ∧ (∀ y, y ≠ e → t.claims.get y = s.claims.get y)
        ∧ t.console = flushAnswers .offline e c s.console
        ∧ (s.bus.requested = s.bus.actual → t.trunk = (s.report (.elementState e .offline)).trunk)) ∧
      (x.online = .offline → t.elements = s.elements.set e { x with missedAnswers := bump x.missedAnswers }
        ∧ t.claims = s.claims ∧ t.console = s.console ∧ (s.bus.requested = s.bus.actual → t.trunk = s.trunk)) ∧
      t = { s with elements := t.elements, claims := t.claims, console := t.console, trunk := t.trunk, bus := t.bus }) ∧
  (∀ (s : State) (e : Fin 32) (levels counters status check : Byte), s.bus.inFlight = .poll e false →
    num8 (e.val + 1) + levels + counters + status + check = 0 →
    ∃ t, exec (.pollEnd (some ⟨[num8 (e.val + 1), levels, counters, status, check], false⟩)) s = .next t ∧
      t.elements = s.elements.set e { s.elements.get e with misses := 0, online := .online }) ∧
  ∀ (s : State) (e : Fin 32), (s.elements.get e).online = .offline → s.bus.actual = .auto → s.bus.resetWait = false →
    s.bus.sweeping = true → s.bus.inFlight = .none → (s.entries.get e).enabled = true → (∀ p, s.bus.position = some p → p < e) →
    (∀ x, x < e → (s.entries.get x).enabled = true → ∃ p, s.bus.position = some p ∧ x ≤ p) →
    ∃ t, exec .pollBegin s = .next t ∧ t.bus.inFlight = .poll e false ∧ t.bus.position = some e

/-- R128, R135: a frame of bytes with no transaction in flight counts one bad answer, but none in the reset wait. -/
def Obligations.StrayBytesAreCounted : Prop :=
  ∀ (s : State) (bytes : List Byte), s.bus.inFlight = .none → exec (.elementBusStrayBytes bytes) s = .next
    (if s.bus.resetWait then s else { s with bus := { s.bus with badAnswers := bump s.bus.badAnswers } })

/-- R133, R172: a PASS within its ranges, in MANUAL and with no transaction in flight, becomes the transaction in flight with
no REPLY formed; out of range it is refused BAD_VALUE, outside MANUAL WRONG_STATE, and while another PASS is in flight BUSY.
R134, R172: a PASS ends with its deferred REPLY, which begins at once on an idle trunk port: OK with no data when no answer is
expected, OK with the answer's bytes for a good answer, and TIMEOUT, counted, for none. Model convention: log entry 18. -/
def Obligations.PassIsTakenAndAnswered : Prop :=
  (∀ (s : State) (tag address count expected : Byte) (bytes : List Byte), s.Ready → s.trunk.replies = [] →
    1 ≤ address.toNat → address.toNat ≤ 32 → 1 ≤ count.toNat → count.toNat ≤ 8 → expected.toNat ≤ 8 →
    bytes.length = count.toNat →
    (s.bus.actual = .manual → s.bus.inFlight = .none → exec (.pass tag address count expected bytes) s = .next
      { s.counted with bus := { s.bus with
          inFlight := .pass tag address expected, wire := withSum (address :: count :: bytes) } }) ∧
    (s.bus.actual = .auto → exec (.pass tag address count expected bytes) s = .next (s.replied tag .wrongState)) ∧
    (∀ a b c, s.bus.actual = .manual → s.bus.inFlight = .pass a b c →
      exec (.pass tag address count expected bytes) s = .next (s.replied tag .busy))) ∧
  (∀ (s : State) (tag address count expected : Byte) (bytes : List Byte), s.Ready → s.trunk.replies = [] →
    bytes.length = count.toNat → bytes.length ≤ 250 →
    ¬ (1 ≤ address.toNat ∧ address.toNat ≤ 32 ∧ 1 ≤ count.toNat ∧ count.toNat ≤ 8 ∧ expected.toNat ≤ 8) →
    exec (.pass tag address count expected bytes) s = .next (s.replied tag .badValue)) ∧
  ∀ (s : State) (tag address expected : Byte), s.bus.inFlight = .pass tag address expected → s.trunk.buffer = [] →
    s.trunk.tx = .idle → s.trunk.replies = [] → s.bus.requested = s.bus.actual → s.bus.sweeping = false →
    (expected = 0 → exec (.passEnd none) s = .next { s with
      bus := { s.bus with inFlight := .none }
      trunk := { s.trunk with tx := .reply, wire := trunkFrame 0x81 tag [0x00] } }) ∧
    (∀ data check, expected ≠ 0 → data.length = expected.toNat → sum8 (address :: data ++ [check]) = 0 →
      exec (.passEnd (some ⟨address :: data ++ [check], false⟩)) s = .next { s with
        bus := { s.bus with inFlight := .none }
        trunk := { s.trunk with tx := .reply, wire := trunkFrame 0x81 tag (0x00 :: data) } }) ∧
    (expected ≠ 0 → exec (.passEnd none) s = .next { s with
      bus := { s.bus with inFlight := .none, passTimeouts := bump s.bus.passTimeouts }
      trunk := { s.trunk with tx := .reply, wire := trunkFrame 0x81 tag [0x19] } })

/-! ## Claims and scoring -/

/-- R143, R144: the expiry of a held element's running timer in RUNNING removes the holder; the head waiter becomes holder
with a fresh timer and accumulator, or the element is left free. R146, R151: CLAIM_RESET leaves the element free in every
clock state, tells its holder RELEASED REFEREE, and changes nothing when nobody holds or waits. Model convention: log entry 7
for HOLD_TIMER_EXPIRY. -/
def Obligations.HoldExpiryAndClaimResetFreeTheElement : Prop :=
  (∀ (s : State) (e : Fin 32) (n : Fin 12) (left : Nat), (s.clocks.get (s.elementHalf e)).state = .running →
    (s.claims.get e).timer = some left → (s.claims.get e).holder = some n → ∃ t, exec (.holdTimerExpiry e) s = .next t ∧
      ((s.claims.get e).waiters = [] → t.claims = s.claims.set e Claim.empty) ∧
      (∀ w rest, (s.claims.get e).waiters = w :: rest → t.claims = s.claims.set e
        { holder := some w, waiters := rest, accumulator := 0
          timer := if (s.entries.get e).holdLimit = 0 then none else some (s.entries.get e).holdLimit }) ∧
      t = { s with claims := t.claims, console := t.console }) ∧
  ∀ (s : State) (tag : Byte) (e : Fin 32), s.Ready →
    ((s.claims.get e).holder = none → (s.claims.get e).waiters = [] →
      exec (.claimReset tag (num8 e.val)) s = .next (s.replied tag .ok)) ∧
    (∀ n, (s.claims.get e).holder = some n → ∃ t, exec (.claimReset tag (num8 e.val)) s = .next t ∧
      t.claims = s.claims.set e Claim.empty ∧
      ((s.claims.get e).waiters = [] → t.console =
        s.console.modify n fun l => l.pushReply (.elementReply (num8 e.val) (.released .referee))) ∧
      t = { s.replied tag .ok with claims := t.claims, console := t.console })

/-- R157, R159, R160: CAPTURE_CLEAR clears one capture and nothing else; SCORE_ADJUST outside IDLE adds the delta, taken within
-1000..+1000, to the named score within 0-65535, CLAMPED when the delta was outside. Operands outside their ranges are refused
BAD_INDEX or BAD_VALUE, and clock B outside split mode WRONG_STATE. -/
def Obligations.CaptureClearAndScoreAdjust : Prop :=
  (∀ (s : State) (tag : Byte) (e : Fin 32) (k : Fin 2), s.Ready →
    exec (.captureClear tag (num8 e.val) (num8 k.val)) s = .next { s.replied tag .ok with
      sensors := s.sensors.set e ((s.sensors.get e).set k
        { (s.sensors.get e).get k with captured := false, captureTime := 0 }) }) ∧
  (∀ (s : State) (tag element sensor : Byte), s.Ready →
    (32 ≤ element.toNat → sensor.toNat < 2 → exec (.captureClear tag element sensor) s = .next (s.replied tag .badIndex)) ∧
    (element.toNat < 32 → 2 ≤ sensor.toNat → exec (.captureClear tag element sensor) s = .next (s.replied tag .badValue))) ∧
  (∀ (s : State) (tag : Byte) (h : Half) (side : Alliance) (delta : BitVec 16), s.Ready → (h = .a ∨ s.split = true) →
    let taken := max (-1000) (min delta.toInt 1000)
    let added (score : Nat) : Nat := (max 0 (min ((score : Int) + taken) 65535)).toNat
    exec (.scoreAdjust tag (codeHalf h) (codeAlliance (some side)) delta) s = .next
      (if (s.clocks.get h).state = .idle then s.replied tag .wrongState
      else { s.replied tag (if taken = delta.toInt then .ok else .clamped) with
        scores := s.scores.set h (match side with
          | .red => { s.scores.get h with red := added (s.scores.get h).red }
          | .blue => { s.scores.get h with blue := added (s.scores.get h).blue }) })) ∧
  ∀ (s : State) (tag clock alliance : Byte) (delta : BitVec 16), s.Ready →
    (clock ≠ 0 ∧ clock ≠ 1 → exec (.scoreAdjust tag clock alliance delta) s = .next (s.replied tag .badValue)) ∧
    (∀ h, clock = codeHalf h → (h = .a ∨ s.split = true) → (s.clocks.get h).state ≠ .idle → alliance ≠ 1 ∧ alliance ≠ 2 →
      exec (.scoreAdjust tag clock alliance delta) s = .next (s.replied tag .badValue)) ∧
    (clock = 1 → s.split = false → (alliance = 1 ∨ alliance = 2) →
      exec (.scoreAdjust tag clock alliance delta) s = .next (s.replied tag .wrongState))
end

