-- ==== Sys2Proof/Laws/Tab.lean ====
section
/-! SUPPORT. The small lemmas of tables and pairs: reading after building, setting, changing; equality cell by cell. -/

namespace Sys2Proof

variable {n : Nat} {α : Type}

theorem Tab.ext {s t : Tab n α} (h : ∀ i, s.get i = t.get i) : s = t := by
  cases s with
  | mk s =>
    cases t with
    | mk t => exact congrArg Tab.mk (Vector.ext fun i hi => h ⟨i, hi⟩)

@[simp] theorem Tab.get_build (f : Fin n → α) (i : Fin n) : (Tab.build f).get i = f i := by simp [Tab.build, Tab.get]

@[simp] theorem Tab.get_fill (x : α) (i : Fin n) : (Tab.fill (n := n) x).get i = x := by simp [Tab.fill]

theorem Tab.get_set (t : Tab n α) (i j : Fin n) (x : α) : (t.set i x).get j = if i = j then x else t.get j := by
  simp [Tab.set, Tab.get, Vector.getElem_set, Fin.ext_iff]

@[simp] theorem Tab.get_set_self (t : Tab n α) (i : Fin n) (x : α) : (t.set i x).get i = x := by simp [Tab.get_set]

theorem Tab.get_set_ne (t : Tab n α) {i j : Fin n} (x : α) (h : i ≠ j) : (t.set i x).get j = t.get j := by
  simp [Tab.get_set, h]

theorem Tab.get_modify (t : Tab n α) (i j : Fin n) (f : α → α) :
    (t.modify i f).get j = if i = j then f (t.get j) else t.get j := by
  by_cases h : i = j
  · subst h; simp [Tab.modify]
  · simp [Tab.modify, Tab.get_set, h]

@[simp] theorem Tab.get_modify_self (t : Tab n α) (i : Fin n) (f : α → α) : (t.modify i f).get i = f (t.get i) := by
  simp [Tab.get_modify]

theorem Tab.get_modify_ne (t : Tab n α) {i j : Fin n} (f : α → α) (h : i ≠ j) : (t.modify i f).get j = t.get j := by
  simp [Tab.get_modify, h]

@[simp] theorem Tab.get_update (t : Tab n α) (f : Fin n → α → α) (i : Fin n) : (t.update f).get i = f i (t.get i) := by
  simp [Tab.update]

@[simp] theorem Half.other_other (h : Half) : h.other.other = h := by cases h <;> rfl

theorem PerHalf.get_set (p : PerHalf α) (h k : Half) (x : α) : (p.set h x).get k = if h = k then x else p.get k := by
  cases h <;> cases k <;> simp [PerHalf.set, PerHalf.get]

@[simp] theorem PerHalf.get_set_self (p : PerHalf α) (h : Half) (x : α) : (p.set h x).get h = x := by simp [PerHalf.get_set]

theorem PerHalf.get_modify (p : PerHalf α) (h k : Half) (f : α → α) :
    (p.modify h f).get k = if h = k then f (p.get k) else p.get k := by
  by_cases e : h = k
  · subst e; simp [PerHalf.modify]
  · simp [PerHalf.modify, PerHalf.get_set, e]

@[simp] theorem PerHalf.get_modify_self (p : PerHalf α) (h : Half) (f : α → α) : (p.modify h f).get h = f (p.get h) := by
  simp [PerHalf.get_modify]

theorem PerHalf.ext_get {p q : PerHalf α} (h : ∀ k, p.get k = q.get k) : p = q := by
  cases p; cases q
  have ha := h .a
  have hb := h .b
  simp only [PerHalf.get] at ha hb
  simp [ha, hb]

end Sys2Proof
end

