-- ==== Sys2Proof/Laws/State.lean ====
section
/-! SUPPORT. One lemma for each field of State under each named update: the updated field, and every other field as it was. -/

namespace Sys2Proof.Machine

@[simp] theorem State.setTables_tables (s : State) (h : Half) (f : MatchTables → MatchTables) :
    (s.setTables h f).tables = s.tables.modify h f := rfl
@[simp] theorem State.setTables_clocks (s : State) (h : Half) (f : MatchTables → MatchTables) :
    (s.setTables h f).clocks = s.clocks := rfl
@[simp] theorem State.setTables_split (s : State) (h : Half) (f : MatchTables → MatchTables) :
    (s.setTables h f).split = s.split := rfl
@[simp] theorem State.setTables_lines (s : State) (h : Half) (f : MatchTables → MatchTables) :
    (s.setTables h f).lines = s.lines := rfl
@[simp] theorem State.setTables_slots (s : State) (h : Half) (f : MatchTables → MatchTables) :
    (s.setTables h f).slots = s.slots := rfl
@[simp] theorem State.setTables_stations (s : State) (h : Half) (f : MatchTables → MatchTables) :
    (s.setTables h f).stations = s.stations := rfl
@[simp] theorem State.setTables_served (s : State) (h : Half) (f : MatchTables → MatchTables) :
    (s.setTables h f).served = s.served := rfl
@[simp] theorem State.setTables_console (s : State) (h : Half) (f : MatchTables → MatchTables) :
    (s.setTables h f).console = s.console := rfl
@[simp] theorem State.setTables_radio (s : State) (h : Half) (f : MatchTables → MatchTables) :
    (s.setTables h f).radio = s.radio := rfl
@[simp] theorem State.setTables_links (s : State) (h : Half) (f : MatchTables → MatchTables) :
    (s.setTables h f).links = s.links := rfl
@[simp] theorem State.setTables_entries (s : State) (h : Half) (f : MatchTables → MatchTables) :
    (s.setTables h f).entries = s.entries := rfl
@[simp] theorem State.setTables_outputs (s : State) (h : Half) (f : MatchTables → MatchTables) :
    (s.setTables h f).outputs = s.outputs := rfl
@[simp] theorem State.setTables_bus (s : State) (h : Half) (f : MatchTables → MatchTables) : (s.setTables h f).bus = s.bus := rfl
@[simp] theorem State.setTables_elements (s : State) (h : Half) (f : MatchTables → MatchTables) :
    (s.setTables h f).elements = s.elements := rfl
@[simp] theorem State.setTables_claims (s : State) (h : Half) (f : MatchTables → MatchTables) :
    (s.setTables h f).claims = s.claims := rfl
@[simp] theorem State.setTables_sensors (s : State) (h : Half) (f : MatchTables → MatchTables) :
    (s.setTables h f).sensors = s.sensors := rfl
@[simp] theorem State.setTables_scores (s : State) (h : Half) (f : MatchTables → MatchTables) :
    (s.setTables h f).scores = s.scores := rfl
@[simp] theorem State.setTables_trunk (s : State) (h : Half) (f : MatchTables → MatchTables) :
    (s.setTables h f).trunk = s.trunk := rfl
@[simp] theorem State.setTables_pending (s : State) (h : Half) (f : MatchTables → MatchTables) :
    (s.setTables h f).pending = s.pending := rfl

@[simp] theorem State.setClock_tables (s : State) (h : Half) (f : Clock → Clock) : (s.setClock h f).tables = s.tables := rfl
@[simp] theorem State.setClock_clocks (s : State) (h : Half) (f : Clock → Clock) :
    (s.setClock h f).clocks = s.clocks.modify h f := rfl
@[simp] theorem State.setClock_split (s : State) (h : Half) (f : Clock → Clock) : (s.setClock h f).split = s.split := rfl
@[simp] theorem State.setClock_lines (s : State) (h : Half) (f : Clock → Clock) : (s.setClock h f).lines = s.lines := rfl
@[simp] theorem State.setClock_slots (s : State) (h : Half) (f : Clock → Clock) : (s.setClock h f).slots = s.slots := rfl
@[simp] theorem State.setClock_stations (s : State) (h : Half) (f : Clock → Clock) : (s.setClock h f).stations = s.stations := rfl
@[simp] theorem State.setClock_served (s : State) (h : Half) (f : Clock → Clock) : (s.setClock h f).served = s.served := rfl
@[simp] theorem State.setClock_console (s : State) (h : Half) (f : Clock → Clock) : (s.setClock h f).console = s.console := rfl
@[simp] theorem State.setClock_radio (s : State) (h : Half) (f : Clock → Clock) : (s.setClock h f).radio = s.radio := rfl
@[simp] theorem State.setClock_links (s : State) (h : Half) (f : Clock → Clock) : (s.setClock h f).links = s.links := rfl
@[simp] theorem State.setClock_entries (s : State) (h : Half) (f : Clock → Clock) : (s.setClock h f).entries = s.entries := rfl
@[simp] theorem State.setClock_outputs (s : State) (h : Half) (f : Clock → Clock) : (s.setClock h f).outputs = s.outputs := rfl
@[simp] theorem State.setClock_bus (s : State) (h : Half) (f : Clock → Clock) : (s.setClock h f).bus = s.bus := rfl
@[simp] theorem State.setClock_elements (s : State) (h : Half) (f : Clock → Clock) : (s.setClock h f).elements = s.elements := rfl
@[simp] theorem State.setClock_claims (s : State) (h : Half) (f : Clock → Clock) : (s.setClock h f).claims = s.claims := rfl
@[simp] theorem State.setClock_sensors (s : State) (h : Half) (f : Clock → Clock) : (s.setClock h f).sensors = s.sensors := rfl
@[simp] theorem State.setClock_scores (s : State) (h : Half) (f : Clock → Clock) : (s.setClock h f).scores = s.scores := rfl
@[simp] theorem State.setClock_trunk (s : State) (h : Half) (f : Clock → Clock) : (s.setClock h f).trunk = s.trunk := rfl
@[simp] theorem State.setClock_pending (s : State) (h : Half) (f : Clock → Clock) : (s.setClock h f).pending = s.pending := rfl

@[simp] theorem State.setLine_tables (s : State) (n : Fin 4) (f : ArenaLine → ArenaLine) :
    (s.setLine n f).tables = s.tables := rfl
@[simp] theorem State.setLine_clocks (s : State) (n : Fin 4) (f : ArenaLine → ArenaLine) :
    (s.setLine n f).clocks = s.clocks := rfl
@[simp] theorem State.setLine_split (s : State) (n : Fin 4) (f : ArenaLine → ArenaLine) : (s.setLine n f).split = s.split := rfl
@[simp] theorem State.setLine_lines (s : State) (n : Fin 4) (f : ArenaLine → ArenaLine) :
    (s.setLine n f).lines = s.lines.modify n f := rfl
@[simp] theorem State.setLine_slots (s : State) (n : Fin 4) (f : ArenaLine → ArenaLine) : (s.setLine n f).slots = s.slots := rfl
@[simp] theorem State.setLine_stations (s : State) (n : Fin 4) (f : ArenaLine → ArenaLine) :
    (s.setLine n f).stations = s.stations := rfl
@[simp] theorem State.setLine_served (s : State) (n : Fin 4) (f : ArenaLine → ArenaLine) :
    (s.setLine n f).served = s.served := rfl
@[simp] theorem State.setLine_console (s : State) (n : Fin 4) (f : ArenaLine → ArenaLine) :
    (s.setLine n f).console = s.console := rfl
@[simp] theorem State.setLine_radio (s : State) (n : Fin 4) (f : ArenaLine → ArenaLine) : (s.setLine n f).radio = s.radio := rfl
@[simp] theorem State.setLine_links (s : State) (n : Fin 4) (f : ArenaLine → ArenaLine) : (s.setLine n f).links = s.links := rfl
@[simp] theorem State.setLine_entries (s : State) (n : Fin 4) (f : ArenaLine → ArenaLine) :
    (s.setLine n f).entries = s.entries := rfl
@[simp] theorem State.setLine_outputs (s : State) (n : Fin 4) (f : ArenaLine → ArenaLine) :
    (s.setLine n f).outputs = s.outputs := rfl
@[simp] theorem State.setLine_bus (s : State) (n : Fin 4) (f : ArenaLine → ArenaLine) : (s.setLine n f).bus = s.bus := rfl
@[simp] theorem State.setLine_elements (s : State) (n : Fin 4) (f : ArenaLine → ArenaLine) :
    (s.setLine n f).elements = s.elements := rfl
@[simp] theorem State.setLine_claims (s : State) (n : Fin 4) (f : ArenaLine → ArenaLine) :
    (s.setLine n f).claims = s.claims := rfl
@[simp] theorem State.setLine_sensors (s : State) (n : Fin 4) (f : ArenaLine → ArenaLine) :
    (s.setLine n f).sensors = s.sensors := rfl
@[simp] theorem State.setLine_scores (s : State) (n : Fin 4) (f : ArenaLine → ArenaLine) :
    (s.setLine n f).scores = s.scores := rfl
@[simp] theorem State.setLine_trunk (s : State) (n : Fin 4) (f : ArenaLine → ArenaLine) : (s.setLine n f).trunk = s.trunk := rfl
@[simp] theorem State.setLine_pending (s : State) (n : Fin 4) (f : ArenaLine → ArenaLine) :
    (s.setLine n f).pending = s.pending := rfl

@[simp] theorem State.setSlot_tables (s : State) (i : Fin 24) (f : SlotAdmission → SlotAdmission) :
    (s.setSlot i f).tables = s.tables := rfl
@[simp] theorem State.setSlot_clocks (s : State) (i : Fin 24) (f : SlotAdmission → SlotAdmission) :
    (s.setSlot i f).clocks = s.clocks := rfl
@[simp] theorem State.setSlot_split (s : State) (i : Fin 24) (f : SlotAdmission → SlotAdmission) :
    (s.setSlot i f).split = s.split := rfl
@[simp] theorem State.setSlot_lines (s : State) (i : Fin 24) (f : SlotAdmission → SlotAdmission) :
    (s.setSlot i f).lines = s.lines := rfl
@[simp] theorem State.setSlot_slots (s : State) (i : Fin 24) (f : SlotAdmission → SlotAdmission) :
    (s.setSlot i f).slots = s.slots.modify i f := rfl
@[simp] theorem State.setSlot_stations (s : State) (i : Fin 24) (f : SlotAdmission → SlotAdmission) :
    (s.setSlot i f).stations = s.stations := rfl
@[simp] theorem State.setSlot_served (s : State) (i : Fin 24) (f : SlotAdmission → SlotAdmission) :
    (s.setSlot i f).served = s.served := rfl
@[simp] theorem State.setSlot_console (s : State) (i : Fin 24) (f : SlotAdmission → SlotAdmission) :
    (s.setSlot i f).console = s.console := rfl
@[simp] theorem State.setSlot_radio (s : State) (i : Fin 24) (f : SlotAdmission → SlotAdmission) :
    (s.setSlot i f).radio = s.radio := rfl
@[simp] theorem State.setSlot_links (s : State) (i : Fin 24) (f : SlotAdmission → SlotAdmission) :
    (s.setSlot i f).links = s.links := rfl
@[simp] theorem State.setSlot_entries (s : State) (i : Fin 24) (f : SlotAdmission → SlotAdmission) :
    (s.setSlot i f).entries = s.entries := rfl
@[simp] theorem State.setSlot_outputs (s : State) (i : Fin 24) (f : SlotAdmission → SlotAdmission) :
    (s.setSlot i f).outputs = s.outputs := rfl
@[simp] theorem State.setSlot_bus (s : State) (i : Fin 24) (f : SlotAdmission → SlotAdmission) :
    (s.setSlot i f).bus = s.bus := rfl
@[simp] theorem State.setSlot_elements (s : State) (i : Fin 24) (f : SlotAdmission → SlotAdmission) :
    (s.setSlot i f).elements = s.elements := rfl
@[simp] theorem State.setSlot_claims (s : State) (i : Fin 24) (f : SlotAdmission → SlotAdmission) :
    (s.setSlot i f).claims = s.claims := rfl
@[simp] theorem State.setSlot_sensors (s : State) (i : Fin 24) (f : SlotAdmission → SlotAdmission) :
    (s.setSlot i f).sensors = s.sensors := rfl
@[simp] theorem State.setSlot_scores (s : State) (i : Fin 24) (f : SlotAdmission → SlotAdmission) :
    (s.setSlot i f).scores = s.scores := rfl
@[simp] theorem State.setSlot_trunk (s : State) (i : Fin 24) (f : SlotAdmission → SlotAdmission) :
    (s.setSlot i f).trunk = s.trunk := rfl
@[simp] theorem State.setSlot_pending (s : State) (i : Fin 24) (f : SlotAdmission → SlotAdmission) :
    (s.setSlot i f).pending = s.pending := rfl

@[simp] theorem State.setSlots_tables (s : State) (f : Fin 24 → SlotAdmission → SlotAdmission) :
    (s.setSlots f).tables = s.tables := by simp only [State.setSlots]
@[simp] theorem State.setSlots_clocks (s : State) (f : Fin 24 → SlotAdmission → SlotAdmission) :
    (s.setSlots f).clocks = s.clocks := by simp only [State.setSlots]
@[simp] theorem State.setSlots_split (s : State) (f : Fin 24 → SlotAdmission → SlotAdmission) :
    (s.setSlots f).split = s.split := by simp only [State.setSlots]
@[simp] theorem State.setSlots_lines (s : State) (f : Fin 24 → SlotAdmission → SlotAdmission) :
    (s.setSlots f).lines = s.lines := by simp only [State.setSlots]
@[simp] theorem State.setSlots_slots (s : State) (f : Fin 24 → SlotAdmission → SlotAdmission) :
    (s.setSlots f).slots = s.slots.update f := by simp only [State.setSlots]
@[simp] theorem State.setSlots_stations (s : State) (f : Fin 24 → SlotAdmission → SlotAdmission) :
    (s.setSlots f).stations = s.stations := by simp only [State.setSlots]
@[simp] theorem State.setSlots_served (s : State) (f : Fin 24 → SlotAdmission → SlotAdmission) :
    (s.setSlots f).served = s.served := by simp only [State.setSlots]
@[simp] theorem State.setSlots_console (s : State) (f : Fin 24 → SlotAdmission → SlotAdmission) :
    (s.setSlots f).console = s.console := by simp only [State.setSlots]
@[simp] theorem State.setSlots_radio (s : State) (f : Fin 24 → SlotAdmission → SlotAdmission) :
    (s.setSlots f).radio = s.radio := by simp only [State.setSlots]
@[simp] theorem State.setSlots_links (s : State) (f : Fin 24 → SlotAdmission → SlotAdmission) :
    (s.setSlots f).links = s.links := by simp only [State.setSlots]
@[simp] theorem State.setSlots_entries (s : State) (f : Fin 24 → SlotAdmission → SlotAdmission) :
    (s.setSlots f).entries = s.entries := by simp only [State.setSlots]
@[simp] theorem State.setSlots_outputs (s : State) (f : Fin 24 → SlotAdmission → SlotAdmission) :
    (s.setSlots f).outputs = s.outputs := by simp only [State.setSlots]
@[simp] theorem State.setSlots_bus (s : State) (f : Fin 24 → SlotAdmission → SlotAdmission) : (s.setSlots f).bus = s.bus := by
  simp only [State.setSlots]
@[simp] theorem State.setSlots_elements (s : State) (f : Fin 24 → SlotAdmission → SlotAdmission) :
    (s.setSlots f).elements = s.elements := by simp only [State.setSlots]
@[simp] theorem State.setSlots_claims (s : State) (f : Fin 24 → SlotAdmission → SlotAdmission) :
    (s.setSlots f).claims = s.claims := by simp only [State.setSlots]
@[simp] theorem State.setSlots_sensors (s : State) (f : Fin 24 → SlotAdmission → SlotAdmission) :
    (s.setSlots f).sensors = s.sensors := by simp only [State.setSlots]
@[simp] theorem State.setSlots_scores (s : State) (f : Fin 24 → SlotAdmission → SlotAdmission) :
    (s.setSlots f).scores = s.scores := by simp only [State.setSlots]
@[simp] theorem State.setSlots_trunk (s : State) (f : Fin 24 → SlotAdmission → SlotAdmission) :
    (s.setSlots f).trunk = s.trunk := by simp only [State.setSlots]
@[simp] theorem State.setSlots_pending (s : State) (f : Fin 24 → SlotAdmission → SlotAdmission) :
    (s.setSlots f).pending = s.pending := by simp only [State.setSlots]

@[simp] theorem State.setStation_tables (s : State) (n : Fin 12) (f : StationAdmission → StationAdmission) :
    (s.setStation n f).tables = s.tables := rfl
@[simp] theorem State.setStation_clocks (s : State) (n : Fin 12) (f : StationAdmission → StationAdmission) :
    (s.setStation n f).clocks = s.clocks := rfl
@[simp] theorem State.setStation_split (s : State) (n : Fin 12) (f : StationAdmission → StationAdmission) :
    (s.setStation n f).split = s.split := rfl
@[simp] theorem State.setStation_lines (s : State) (n : Fin 12) (f : StationAdmission → StationAdmission) :
    (s.setStation n f).lines = s.lines := rfl
@[simp] theorem State.setStation_slots (s : State) (n : Fin 12) (f : StationAdmission → StationAdmission) :
    (s.setStation n f).slots = s.slots := rfl
@[simp] theorem State.setStation_stations (s : State) (n : Fin 12) (f : StationAdmission → StationAdmission) :
    (s.setStation n f).stations = s.stations.modify n f := rfl
@[simp] theorem State.setStation_served (s : State) (n : Fin 12) (f : StationAdmission → StationAdmission) :
    (s.setStation n f).served = s.served := rfl
@[simp] theorem State.setStation_console (s : State) (n : Fin 12) (f : StationAdmission → StationAdmission) :
    (s.setStation n f).console = s.console := rfl
@[simp] theorem State.setStation_radio (s : State) (n : Fin 12) (f : StationAdmission → StationAdmission) :
    (s.setStation n f).radio = s.radio := rfl
@[simp] theorem State.setStation_links (s : State) (n : Fin 12) (f : StationAdmission → StationAdmission) :
    (s.setStation n f).links = s.links := rfl
@[simp] theorem State.setStation_entries (s : State) (n : Fin 12) (f : StationAdmission → StationAdmission) :
    (s.setStation n f).entries = s.entries := rfl
@[simp] theorem State.setStation_outputs (s : State) (n : Fin 12) (f : StationAdmission → StationAdmission) :
    (s.setStation n f).outputs = s.outputs := rfl
@[simp] theorem State.setStation_bus (s : State) (n : Fin 12) (f : StationAdmission → StationAdmission) :
    (s.setStation n f).bus = s.bus := rfl
@[simp] theorem State.setStation_elements (s : State) (n : Fin 12) (f : StationAdmission → StationAdmission) :
    (s.setStation n f).elements = s.elements := rfl
@[simp] theorem State.setStation_claims (s : State) (n : Fin 12) (f : StationAdmission → StationAdmission) :
    (s.setStation n f).claims = s.claims := rfl
@[simp] theorem State.setStation_sensors (s : State) (n : Fin 12) (f : StationAdmission → StationAdmission) :
    (s.setStation n f).sensors = s.sensors := rfl
@[simp] theorem State.setStation_scores (s : State) (n : Fin 12) (f : StationAdmission → StationAdmission) :
    (s.setStation n f).scores = s.scores := rfl
@[simp] theorem State.setStation_trunk (s : State) (n : Fin 12) (f : StationAdmission → StationAdmission) :
    (s.setStation n f).trunk = s.trunk := rfl
@[simp] theorem State.setStation_pending (s : State) (n : Fin 12) (f : StationAdmission → StationAdmission) :
    (s.setStation n f).pending = s.pending := rfl

@[simp] theorem State.setStations_tables (s : State) (f : Fin 12 → StationAdmission → StationAdmission) :
    (s.setStations f).tables = s.tables := by simp only [State.setStations]
@[simp] theorem State.setStations_clocks (s : State) (f : Fin 12 → StationAdmission → StationAdmission) :
    (s.setStations f).clocks = s.clocks := by simp only [State.setStations]
@[simp] theorem State.setStations_split (s : State) (f : Fin 12 → StationAdmission → StationAdmission) :
    (s.setStations f).split = s.split := by simp only [State.setStations]
@[simp] theorem State.setStations_lines (s : State) (f : Fin 12 → StationAdmission → StationAdmission) :
    (s.setStations f).lines = s.lines := by simp only [State.setStations]
@[simp] theorem State.setStations_slots (s : State) (f : Fin 12 → StationAdmission → StationAdmission) :
    (s.setStations f).slots = s.slots := by simp only [State.setStations]
@[simp] theorem State.setStations_stations (s : State) (f : Fin 12 → StationAdmission → StationAdmission) :
    (s.setStations f).stations = s.stations.update f := by simp only [State.setStations]
@[simp] theorem State.setStations_served (s : State) (f : Fin 12 → StationAdmission → StationAdmission) :
    (s.setStations f).served = s.served := by simp only [State.setStations]
@[simp] theorem State.setStations_console (s : State) (f : Fin 12 → StationAdmission → StationAdmission) :
    (s.setStations f).console = s.console := by simp only [State.setStations]
@[simp] theorem State.setStations_radio (s : State) (f : Fin 12 → StationAdmission → StationAdmission) :
    (s.setStations f).radio = s.radio := by simp only [State.setStations]
@[simp] theorem State.setStations_links (s : State) (f : Fin 12 → StationAdmission → StationAdmission) :
    (s.setStations f).links = s.links := by simp only [State.setStations]
@[simp] theorem State.setStations_entries (s : State) (f : Fin 12 → StationAdmission → StationAdmission) :
    (s.setStations f).entries = s.entries := by simp only [State.setStations]
@[simp] theorem State.setStations_outputs (s : State) (f : Fin 12 → StationAdmission → StationAdmission) :
    (s.setStations f).outputs = s.outputs := by simp only [State.setStations]
@[simp] theorem State.setStations_bus (s : State) (f : Fin 12 → StationAdmission → StationAdmission) :
    (s.setStations f).bus = s.bus := by simp only [State.setStations]
@[simp] theorem State.setStations_elements (s : State) (f : Fin 12 → StationAdmission → StationAdmission) :
    (s.setStations f).elements = s.elements := by simp only [State.setStations]
@[simp] theorem State.setStations_claims (s : State) (f : Fin 12 → StationAdmission → StationAdmission) :
    (s.setStations f).claims = s.claims := by simp only [State.setStations]
@[simp] theorem State.setStations_sensors (s : State) (f : Fin 12 → StationAdmission → StationAdmission) :
    (s.setStations f).sensors = s.sensors := by simp only [State.setStations]
@[simp] theorem State.setStations_scores (s : State) (f : Fin 12 → StationAdmission → StationAdmission) :
    (s.setStations f).scores = s.scores := by simp only [State.setStations]
@[simp] theorem State.setStations_trunk (s : State) (f : Fin 12 → StationAdmission → StationAdmission) :
    (s.setStations f).trunk = s.trunk := by simp only [State.setStations]
@[simp] theorem State.setStations_pending (s : State) (f : Fin 12 → StationAdmission → StationAdmission) :
    (s.setStations f).pending = s.pending := by simp only [State.setStations]

@[simp] theorem State.setConsole_tables (s : State) (n : Fin 12) (f : ConsoleLine → ConsoleLine) :
    (s.setConsole n f).tables = s.tables := rfl
@[simp] theorem State.setConsole_clocks (s : State) (n : Fin 12) (f : ConsoleLine → ConsoleLine) :
    (s.setConsole n f).clocks = s.clocks := rfl
@[simp] theorem State.setConsole_split (s : State) (n : Fin 12) (f : ConsoleLine → ConsoleLine) :
    (s.setConsole n f).split = s.split := rfl
@[simp] theorem State.setConsole_lines (s : State) (n : Fin 12) (f : ConsoleLine → ConsoleLine) :
    (s.setConsole n f).lines = s.lines := rfl
@[simp] theorem State.setConsole_slots (s : State) (n : Fin 12) (f : ConsoleLine → ConsoleLine) :
    (s.setConsole n f).slots = s.slots := rfl
@[simp] theorem State.setConsole_stations (s : State) (n : Fin 12) (f : ConsoleLine → ConsoleLine) :
    (s.setConsole n f).stations = s.stations := rfl
@[simp] theorem State.setConsole_served (s : State) (n : Fin 12) (f : ConsoleLine → ConsoleLine) :
    (s.setConsole n f).served = s.served := rfl
@[simp] theorem State.setConsole_console (s : State) (n : Fin 12) (f : ConsoleLine → ConsoleLine) :
    (s.setConsole n f).console = s.console.modify n f := rfl
@[simp] theorem State.setConsole_radio (s : State) (n : Fin 12) (f : ConsoleLine → ConsoleLine) :
    (s.setConsole n f).radio = s.radio := rfl
@[simp] theorem State.setConsole_links (s : State) (n : Fin 12) (f : ConsoleLine → ConsoleLine) :
    (s.setConsole n f).links = s.links := rfl
@[simp] theorem State.setConsole_entries (s : State) (n : Fin 12) (f : ConsoleLine → ConsoleLine) :
    (s.setConsole n f).entries = s.entries := rfl
@[simp] theorem State.setConsole_outputs (s : State) (n : Fin 12) (f : ConsoleLine → ConsoleLine) :
    (s.setConsole n f).outputs = s.outputs := rfl
@[simp] theorem State.setConsole_bus (s : State) (n : Fin 12) (f : ConsoleLine → ConsoleLine) :
    (s.setConsole n f).bus = s.bus := rfl
@[simp] theorem State.setConsole_elements (s : State) (n : Fin 12) (f : ConsoleLine → ConsoleLine) :
    (s.setConsole n f).elements = s.elements := rfl
@[simp] theorem State.setConsole_claims (s : State) (n : Fin 12) (f : ConsoleLine → ConsoleLine) :
    (s.setConsole n f).claims = s.claims := rfl
@[simp] theorem State.setConsole_sensors (s : State) (n : Fin 12) (f : ConsoleLine → ConsoleLine) :
    (s.setConsole n f).sensors = s.sensors := rfl
@[simp] theorem State.setConsole_scores (s : State) (n : Fin 12) (f : ConsoleLine → ConsoleLine) :
    (s.setConsole n f).scores = s.scores := rfl
@[simp] theorem State.setConsole_trunk (s : State) (n : Fin 12) (f : ConsoleLine → ConsoleLine) :
    (s.setConsole n f).trunk = s.trunk := rfl
@[simp] theorem State.setConsole_pending (s : State) (n : Fin 12) (f : ConsoleLine → ConsoleLine) :
    (s.setConsole n f).pending = s.pending := rfl

@[simp] theorem State.setRadio_tables (s : State) (f : Radio → Radio) : (s.setRadio f).tables = s.tables := rfl
@[simp] theorem State.setRadio_clocks (s : State) (f : Radio → Radio) : (s.setRadio f).clocks = s.clocks := rfl
@[simp] theorem State.setRadio_split (s : State) (f : Radio → Radio) : (s.setRadio f).split = s.split := rfl
@[simp] theorem State.setRadio_lines (s : State) (f : Radio → Radio) : (s.setRadio f).lines = s.lines := rfl
@[simp] theorem State.setRadio_slots (s : State) (f : Radio → Radio) : (s.setRadio f).slots = s.slots := rfl
@[simp] theorem State.setRadio_stations (s : State) (f : Radio → Radio) : (s.setRadio f).stations = s.stations := rfl
@[simp] theorem State.setRadio_served (s : State) (f : Radio → Radio) : (s.setRadio f).served = s.served := rfl
@[simp] theorem State.setRadio_console (s : State) (f : Radio → Radio) : (s.setRadio f).console = s.console := rfl
@[simp] theorem State.setRadio_radio (s : State) (f : Radio → Radio) : (s.setRadio f).radio = f s.radio := rfl
@[simp] theorem State.setRadio_links (s : State) (f : Radio → Radio) : (s.setRadio f).links = s.links := rfl
@[simp] theorem State.setRadio_entries (s : State) (f : Radio → Radio) : (s.setRadio f).entries = s.entries := rfl
@[simp] theorem State.setRadio_outputs (s : State) (f : Radio → Radio) : (s.setRadio f).outputs = s.outputs := rfl
@[simp] theorem State.setRadio_bus (s : State) (f : Radio → Radio) : (s.setRadio f).bus = s.bus := rfl
@[simp] theorem State.setRadio_elements (s : State) (f : Radio → Radio) : (s.setRadio f).elements = s.elements := rfl
@[simp] theorem State.setRadio_claims (s : State) (f : Radio → Radio) : (s.setRadio f).claims = s.claims := rfl
@[simp] theorem State.setRadio_sensors (s : State) (f : Radio → Radio) : (s.setRadio f).sensors = s.sensors := rfl
@[simp] theorem State.setRadio_scores (s : State) (f : Radio → Radio) : (s.setRadio f).scores = s.scores := rfl
@[simp] theorem State.setRadio_trunk (s : State) (f : Radio → Radio) : (s.setRadio f).trunk = s.trunk := rfl
@[simp] theorem State.setRadio_pending (s : State) (f : Radio → Radio) : (s.setRadio f).pending = s.pending := rfl

@[simp] theorem State.countRadio_tables (s : State) (f : RadioCounters → RadioCounters) :
    (s.countRadio f).tables = s.tables := rfl
@[simp] theorem State.countRadio_clocks (s : State) (f : RadioCounters → RadioCounters) :
    (s.countRadio f).clocks = s.clocks := rfl
@[simp] theorem State.countRadio_split (s : State) (f : RadioCounters → RadioCounters) : (s.countRadio f).split = s.split := rfl
@[simp] theorem State.countRadio_lines (s : State) (f : RadioCounters → RadioCounters) : (s.countRadio f).lines = s.lines := rfl
@[simp] theorem State.countRadio_slots (s : State) (f : RadioCounters → RadioCounters) : (s.countRadio f).slots = s.slots := rfl
@[simp] theorem State.countRadio_stations (s : State) (f : RadioCounters → RadioCounters) :
    (s.countRadio f).stations = s.stations := rfl
@[simp] theorem State.countRadio_served (s : State) (f : RadioCounters → RadioCounters) :
    (s.countRadio f).served = s.served := rfl
@[simp] theorem State.countRadio_console (s : State) (f : RadioCounters → RadioCounters) :
    (s.countRadio f).console = s.console := rfl
@[simp] theorem State.countRadio_radio (s : State) (f : RadioCounters → RadioCounters) :
    (s.countRadio f).radio = { s.radio with counters := f s.radio.counters } := rfl
@[simp] theorem State.countRadio_links (s : State) (f : RadioCounters → RadioCounters) : (s.countRadio f).links = s.links := rfl
@[simp] theorem State.countRadio_entries (s : State) (f : RadioCounters → RadioCounters) :
    (s.countRadio f).entries = s.entries := rfl
@[simp] theorem State.countRadio_outputs (s : State) (f : RadioCounters → RadioCounters) :
    (s.countRadio f).outputs = s.outputs := rfl
@[simp] theorem State.countRadio_bus (s : State) (f : RadioCounters → RadioCounters) : (s.countRadio f).bus = s.bus := rfl
@[simp] theorem State.countRadio_elements (s : State) (f : RadioCounters → RadioCounters) :
    (s.countRadio f).elements = s.elements := rfl
@[simp] theorem State.countRadio_claims (s : State) (f : RadioCounters → RadioCounters) :
    (s.countRadio f).claims = s.claims := rfl
@[simp] theorem State.countRadio_sensors (s : State) (f : RadioCounters → RadioCounters) :
    (s.countRadio f).sensors = s.sensors := rfl
@[simp] theorem State.countRadio_scores (s : State) (f : RadioCounters → RadioCounters) :
    (s.countRadio f).scores = s.scores := rfl
@[simp] theorem State.countRadio_trunk (s : State) (f : RadioCounters → RadioCounters) : (s.countRadio f).trunk = s.trunk := rfl
@[simp] theorem State.countRadio_pending (s : State) (f : RadioCounters → RadioCounters) :
    (s.countRadio f).pending = s.pending := rfl

@[simp] theorem State.setLink_tables (s : State) (i : Fin 24) (f : SlotLink → SlotLink) : (s.setLink i f).tables = s.tables := rfl
@[simp] theorem State.setLink_clocks (s : State) (i : Fin 24) (f : SlotLink → SlotLink) : (s.setLink i f).clocks = s.clocks := rfl
@[simp] theorem State.setLink_split (s : State) (i : Fin 24) (f : SlotLink → SlotLink) : (s.setLink i f).split = s.split := rfl
@[simp] theorem State.setLink_lines (s : State) (i : Fin 24) (f : SlotLink → SlotLink) : (s.setLink i f).lines = s.lines := rfl
@[simp] theorem State.setLink_slots (s : State) (i : Fin 24) (f : SlotLink → SlotLink) : (s.setLink i f).slots = s.slots := rfl
@[simp] theorem State.setLink_stations (s : State) (i : Fin 24) (f : SlotLink → SlotLink) :
    (s.setLink i f).stations = s.stations := rfl
@[simp] theorem State.setLink_served (s : State) (i : Fin 24) (f : SlotLink → SlotLink) : (s.setLink i f).served = s.served := rfl
@[simp] theorem State.setLink_console (s : State) (i : Fin 24) (f : SlotLink → SlotLink) :
    (s.setLink i f).console = s.console := rfl
@[simp] theorem State.setLink_radio (s : State) (i : Fin 24) (f : SlotLink → SlotLink) : (s.setLink i f).radio = s.radio := rfl
@[simp] theorem State.setLink_links (s : State) (i : Fin 24) (f : SlotLink → SlotLink) :
    (s.setLink i f).links = s.links.modify i f := rfl
@[simp] theorem State.setLink_entries (s : State) (i : Fin 24) (f : SlotLink → SlotLink) :
    (s.setLink i f).entries = s.entries := rfl
@[simp] theorem State.setLink_outputs (s : State) (i : Fin 24) (f : SlotLink → SlotLink) :
    (s.setLink i f).outputs = s.outputs := rfl
@[simp] theorem State.setLink_bus (s : State) (i : Fin 24) (f : SlotLink → SlotLink) : (s.setLink i f).bus = s.bus := rfl
@[simp] theorem State.setLink_elements (s : State) (i : Fin 24) (f : SlotLink → SlotLink) :
    (s.setLink i f).elements = s.elements := rfl
@[simp] theorem State.setLink_claims (s : State) (i : Fin 24) (f : SlotLink → SlotLink) : (s.setLink i f).claims = s.claims := rfl
@[simp] theorem State.setLink_sensors (s : State) (i : Fin 24) (f : SlotLink → SlotLink) :
    (s.setLink i f).sensors = s.sensors := rfl
@[simp] theorem State.setLink_scores (s : State) (i : Fin 24) (f : SlotLink → SlotLink) : (s.setLink i f).scores = s.scores := rfl
@[simp] theorem State.setLink_trunk (s : State) (i : Fin 24) (f : SlotLink → SlotLink) : (s.setLink i f).trunk = s.trunk := rfl
@[simp] theorem State.setLink_pending (s : State) (i : Fin 24) (f : SlotLink → SlotLink) :
    (s.setLink i f).pending = s.pending := rfl

@[simp] theorem State.setLinks_tables (s : State) (f : Fin 24 → SlotLink → SlotLink) : (s.setLinks f).tables = s.tables := by
  simp only [State.setLinks]
@[simp] theorem State.setLinks_clocks (s : State) (f : Fin 24 → SlotLink → SlotLink) : (s.setLinks f).clocks = s.clocks := by
  simp only [State.setLinks]
@[simp] theorem State.setLinks_split (s : State) (f : Fin 24 → SlotLink → SlotLink) : (s.setLinks f).split = s.split := by
  simp only [State.setLinks]
@[simp] theorem State.setLinks_lines (s : State) (f : Fin 24 → SlotLink → SlotLink) : (s.setLinks f).lines = s.lines := by
  simp only [State.setLinks]
@[simp] theorem State.setLinks_slots (s : State) (f : Fin 24 → SlotLink → SlotLink) : (s.setLinks f).slots = s.slots := by
  simp only [State.setLinks]
@[simp] theorem State.setLinks_stations (s : State) (f : Fin 24 → SlotLink → SlotLink) :
    (s.setLinks f).stations = s.stations := by simp only [State.setLinks]
@[simp] theorem State.setLinks_served (s : State) (f : Fin 24 → SlotLink → SlotLink) : (s.setLinks f).served = s.served := by
  simp only [State.setLinks]
@[simp] theorem State.setLinks_console (s : State) (f : Fin 24 → SlotLink → SlotLink) : (s.setLinks f).console = s.console := by
  simp only [State.setLinks]
@[simp] theorem State.setLinks_radio (s : State) (f : Fin 24 → SlotLink → SlotLink) : (s.setLinks f).radio = s.radio := by
  simp only [State.setLinks]
@[simp] theorem State.setLinks_links (s : State) (f : Fin 24 → SlotLink → SlotLink) :
    (s.setLinks f).links = s.links.update f := by simp only [State.setLinks]
@[simp] theorem State.setLinks_entries (s : State) (f : Fin 24 → SlotLink → SlotLink) : (s.setLinks f).entries = s.entries := by
  simp only [State.setLinks]
@[simp] theorem State.setLinks_outputs (s : State) (f : Fin 24 → SlotLink → SlotLink) : (s.setLinks f).outputs = s.outputs := by
  simp only [State.setLinks]
@[simp] theorem State.setLinks_bus (s : State) (f : Fin 24 → SlotLink → SlotLink) : (s.setLinks f).bus = s.bus := by
  simp only [State.setLinks]
@[simp] theorem State.setLinks_elements (s : State) (f : Fin 24 → SlotLink → SlotLink) :
    (s.setLinks f).elements = s.elements := by simp only [State.setLinks]
@[simp] theorem State.setLinks_claims (s : State) (f : Fin 24 → SlotLink → SlotLink) : (s.setLinks f).claims = s.claims := by
  simp only [State.setLinks]
@[simp] theorem State.setLinks_sensors (s : State) (f : Fin 24 → SlotLink → SlotLink) : (s.setLinks f).sensors = s.sensors := by
  simp only [State.setLinks]
@[simp] theorem State.setLinks_scores (s : State) (f : Fin 24 → SlotLink → SlotLink) : (s.setLinks f).scores = s.scores := by
  simp only [State.setLinks]
@[simp] theorem State.setLinks_trunk (s : State) (f : Fin 24 → SlotLink → SlotLink) : (s.setLinks f).trunk = s.trunk := by
  simp only [State.setLinks]
@[simp] theorem State.setLinks_pending (s : State) (f : Fin 24 → SlotLink → SlotLink) : (s.setLinks f).pending = s.pending := by
  simp only [State.setLinks]

@[simp] theorem State.setOutput_tables (s : State) (e : Fin 32) (k : Fin 2) (f : OutputState → OutputState) :
    (s.setOutput e k f).tables = s.tables := rfl
@[simp] theorem State.setOutput_clocks (s : State) (e : Fin 32) (k : Fin 2) (f : OutputState → OutputState) :
    (s.setOutput e k f).clocks = s.clocks := rfl
@[simp] theorem State.setOutput_split (s : State) (e : Fin 32) (k : Fin 2) (f : OutputState → OutputState) :
    (s.setOutput e k f).split = s.split := rfl
@[simp] theorem State.setOutput_lines (s : State) (e : Fin 32) (k : Fin 2) (f : OutputState → OutputState) :
    (s.setOutput e k f).lines = s.lines := rfl
@[simp] theorem State.setOutput_slots (s : State) (e : Fin 32) (k : Fin 2) (f : OutputState → OutputState) :
    (s.setOutput e k f).slots = s.slots := rfl
@[simp] theorem State.setOutput_stations (s : State) (e : Fin 32) (k : Fin 2) (f : OutputState → OutputState) :
    (s.setOutput e k f).stations = s.stations := rfl
@[simp] theorem State.setOutput_served (s : State) (e : Fin 32) (k : Fin 2) (f : OutputState → OutputState) :
    (s.setOutput e k f).served = s.served := rfl
@[simp] theorem State.setOutput_console (s : State) (e : Fin 32) (k : Fin 2) (f : OutputState → OutputState) :
    (s.setOutput e k f).console = s.console := rfl
@[simp] theorem State.setOutput_radio (s : State) (e : Fin 32) (k : Fin 2) (f : OutputState → OutputState) :
    (s.setOutput e k f).radio = s.radio := rfl
@[simp] theorem State.setOutput_links (s : State) (e : Fin 32) (k : Fin 2) (f : OutputState → OutputState) :
    (s.setOutput e k f).links = s.links := rfl
@[simp] theorem State.setOutput_entries (s : State) (e : Fin 32) (k : Fin 2) (f : OutputState → OutputState) :
    (s.setOutput e k f).entries = s.entries := rfl
@[simp] theorem State.setOutput_outputs (s : State) (e : Fin 32) (k : Fin 2) (f : OutputState → OutputState) :
    (s.setOutput e k f).outputs = s.outputs.modify e (·.modify k f) := rfl
@[simp] theorem State.setOutput_bus (s : State) (e : Fin 32) (k : Fin 2) (f : OutputState → OutputState) :
    (s.setOutput e k f).bus = s.bus := rfl
@[simp] theorem State.setOutput_elements (s : State) (e : Fin 32) (k : Fin 2) (f : OutputState → OutputState) :
    (s.setOutput e k f).elements = s.elements := rfl
@[simp] theorem State.setOutput_claims (s : State) (e : Fin 32) (k : Fin 2) (f : OutputState → OutputState) :
    (s.setOutput e k f).claims = s.claims := rfl
@[simp] theorem State.setOutput_sensors (s : State) (e : Fin 32) (k : Fin 2) (f : OutputState → OutputState) :
    (s.setOutput e k f).sensors = s.sensors := rfl
@[simp] theorem State.setOutput_scores (s : State) (e : Fin 32) (k : Fin 2) (f : OutputState → OutputState) :
    (s.setOutput e k f).scores = s.scores := rfl
@[simp] theorem State.setOutput_trunk (s : State) (e : Fin 32) (k : Fin 2) (f : OutputState → OutputState) :
    (s.setOutput e k f).trunk = s.trunk := rfl
@[simp] theorem State.setOutput_pending (s : State) (e : Fin 32) (k : Fin 2) (f : OutputState → OutputState) :
    (s.setOutput e k f).pending = s.pending := rfl

@[simp] theorem State.setBus_tables (s : State) (f : Bus → Bus) : (s.setBus f).tables = s.tables := rfl
@[simp] theorem State.setBus_clocks (s : State) (f : Bus → Bus) : (s.setBus f).clocks = s.clocks := rfl
@[simp] theorem State.setBus_split (s : State) (f : Bus → Bus) : (s.setBus f).split = s.split := rfl
@[simp] theorem State.setBus_lines (s : State) (f : Bus → Bus) : (s.setBus f).lines = s.lines := rfl
@[simp] theorem State.setBus_slots (s : State) (f : Bus → Bus) : (s.setBus f).slots = s.slots := rfl
@[simp] theorem State.setBus_stations (s : State) (f : Bus → Bus) : (s.setBus f).stations = s.stations := rfl
@[simp] theorem State.setBus_served (s : State) (f : Bus → Bus) : (s.setBus f).served = s.served := rfl
@[simp] theorem State.setBus_console (s : State) (f : Bus → Bus) : (s.setBus f).console = s.console := rfl
@[simp] theorem State.setBus_radio (s : State) (f : Bus → Bus) : (s.setBus f).radio = s.radio := rfl
@[simp] theorem State.setBus_links (s : State) (f : Bus → Bus) : (s.setBus f).links = s.links := rfl
@[simp] theorem State.setBus_entries (s : State) (f : Bus → Bus) : (s.setBus f).entries = s.entries := rfl
@[simp] theorem State.setBus_outputs (s : State) (f : Bus → Bus) : (s.setBus f).outputs = s.outputs := rfl
@[simp] theorem State.setBus_bus (s : State) (f : Bus → Bus) : (s.setBus f).bus = f s.bus := rfl
@[simp] theorem State.setBus_elements (s : State) (f : Bus → Bus) : (s.setBus f).elements = s.elements := rfl
@[simp] theorem State.setBus_claims (s : State) (f : Bus → Bus) : (s.setBus f).claims = s.claims := rfl
@[simp] theorem State.setBus_sensors (s : State) (f : Bus → Bus) : (s.setBus f).sensors = s.sensors := rfl
@[simp] theorem State.setBus_scores (s : State) (f : Bus → Bus) : (s.setBus f).scores = s.scores := rfl
@[simp] theorem State.setBus_trunk (s : State) (f : Bus → Bus) : (s.setBus f).trunk = s.trunk := rfl
@[simp] theorem State.setBus_pending (s : State) (f : Bus → Bus) : (s.setBus f).pending = s.pending := rfl

@[simp] theorem State.setElement_tables (s : State) (e : Fin 32) (f : ElementLink → ElementLink) :
    (s.setElement e f).tables = s.tables := rfl
@[simp] theorem State.setElement_clocks (s : State) (e : Fin 32) (f : ElementLink → ElementLink) :
    (s.setElement e f).clocks = s.clocks := rfl
@[simp] theorem State.setElement_split (s : State) (e : Fin 32) (f : ElementLink → ElementLink) :
    (s.setElement e f).split = s.split := rfl
@[simp] theorem State.setElement_lines (s : State) (e : Fin 32) (f : ElementLink → ElementLink) :
    (s.setElement e f).lines = s.lines := rfl
@[simp] theorem State.setElement_slots (s : State) (e : Fin 32) (f : ElementLink → ElementLink) :
    (s.setElement e f).slots = s.slots := rfl
@[simp] theorem State.setElement_stations (s : State) (e : Fin 32) (f : ElementLink → ElementLink) :
    (s.setElement e f).stations = s.stations := rfl
@[simp] theorem State.setElement_served (s : State) (e : Fin 32) (f : ElementLink → ElementLink) :
    (s.setElement e f).served = s.served := rfl
@[simp] theorem State.setElement_console (s : State) (e : Fin 32) (f : ElementLink → ElementLink) :
    (s.setElement e f).console = s.console := rfl
@[simp] theorem State.setElement_radio (s : State) (e : Fin 32) (f : ElementLink → ElementLink) :
    (s.setElement e f).radio = s.radio := rfl
@[simp] theorem State.setElement_links (s : State) (e : Fin 32) (f : ElementLink → ElementLink) :
    (s.setElement e f).links = s.links := rfl
@[simp] theorem State.setElement_entries (s : State) (e : Fin 32) (f : ElementLink → ElementLink) :
    (s.setElement e f).entries = s.entries := rfl
@[simp] theorem State.setElement_outputs (s : State) (e : Fin 32) (f : ElementLink → ElementLink) :
    (s.setElement e f).outputs = s.outputs := rfl
@[simp] theorem State.setElement_bus (s : State) (e : Fin 32) (f : ElementLink → ElementLink) :
    (s.setElement e f).bus = s.bus := rfl
@[simp] theorem State.setElement_elements (s : State) (e : Fin 32) (f : ElementLink → ElementLink) :
    (s.setElement e f).elements = s.elements.modify e f := rfl
@[simp] theorem State.setElement_claims (s : State) (e : Fin 32) (f : ElementLink → ElementLink) :
    (s.setElement e f).claims = s.claims := rfl
@[simp] theorem State.setElement_sensors (s : State) (e : Fin 32) (f : ElementLink → ElementLink) :
    (s.setElement e f).sensors = s.sensors := rfl
@[simp] theorem State.setElement_scores (s : State) (e : Fin 32) (f : ElementLink → ElementLink) :
    (s.setElement e f).scores = s.scores := rfl
@[simp] theorem State.setElement_trunk (s : State) (e : Fin 32) (f : ElementLink → ElementLink) :
    (s.setElement e f).trunk = s.trunk := rfl
@[simp] theorem State.setElement_pending (s : State) (e : Fin 32) (f : ElementLink → ElementLink) :
    (s.setElement e f).pending = s.pending := rfl

@[simp] theorem State.setClaim_tables (s : State) (e : Fin 32) (f : Claim → Claim) : (s.setClaim e f).tables = s.tables := rfl
@[simp] theorem State.setClaim_clocks (s : State) (e : Fin 32) (f : Claim → Claim) : (s.setClaim e f).clocks = s.clocks := rfl
@[simp] theorem State.setClaim_split (s : State) (e : Fin 32) (f : Claim → Claim) : (s.setClaim e f).split = s.split := rfl
@[simp] theorem State.setClaim_lines (s : State) (e : Fin 32) (f : Claim → Claim) : (s.setClaim e f).lines = s.lines := rfl
@[simp] theorem State.setClaim_slots (s : State) (e : Fin 32) (f : Claim → Claim) : (s.setClaim e f).slots = s.slots := rfl
@[simp] theorem State.setClaim_stations (s : State) (e : Fin 32) (f : Claim → Claim) :
    (s.setClaim e f).stations = s.stations := rfl
@[simp] theorem State.setClaim_served (s : State) (e : Fin 32) (f : Claim → Claim) : (s.setClaim e f).served = s.served := rfl
@[simp] theorem State.setClaim_console (s : State) (e : Fin 32) (f : Claim → Claim) : (s.setClaim e f).console = s.console := rfl
@[simp] theorem State.setClaim_radio (s : State) (e : Fin 32) (f : Claim → Claim) : (s.setClaim e f).radio = s.radio := rfl
@[simp] theorem State.setClaim_links (s : State) (e : Fin 32) (f : Claim → Claim) : (s.setClaim e f).links = s.links := rfl
@[simp] theorem State.setClaim_entries (s : State) (e : Fin 32) (f : Claim → Claim) : (s.setClaim e f).entries = s.entries := rfl
@[simp] theorem State.setClaim_outputs (s : State) (e : Fin 32) (f : Claim → Claim) : (s.setClaim e f).outputs = s.outputs := rfl
@[simp] theorem State.setClaim_bus (s : State) (e : Fin 32) (f : Claim → Claim) : (s.setClaim e f).bus = s.bus := rfl
@[simp] theorem State.setClaim_elements (s : State) (e : Fin 32) (f : Claim → Claim) :
    (s.setClaim e f).elements = s.elements := rfl
@[simp] theorem State.setClaim_claims (s : State) (e : Fin 32) (f : Claim → Claim) :
    (s.setClaim e f).claims = s.claims.modify e f := rfl
@[simp] theorem State.setClaim_sensors (s : State) (e : Fin 32) (f : Claim → Claim) : (s.setClaim e f).sensors = s.sensors := rfl
@[simp] theorem State.setClaim_scores (s : State) (e : Fin 32) (f : Claim → Claim) : (s.setClaim e f).scores = s.scores := rfl
@[simp] theorem State.setClaim_trunk (s : State) (e : Fin 32) (f : Claim → Claim) : (s.setClaim e f).trunk = s.trunk := rfl
@[simp] theorem State.setClaim_pending (s : State) (e : Fin 32) (f : Claim → Claim) : (s.setClaim e f).pending = s.pending := rfl

@[simp] theorem State.setClaims_tables (s : State) (f : Fin 32 → Claim → Claim) : (s.setClaims f).tables = s.tables := by
  simp only [State.setClaims]
@[simp] theorem State.setClaims_clocks (s : State) (f : Fin 32 → Claim → Claim) : (s.setClaims f).clocks = s.clocks := by
  simp only [State.setClaims]
@[simp] theorem State.setClaims_split (s : State) (f : Fin 32 → Claim → Claim) : (s.setClaims f).split = s.split := by
  simp only [State.setClaims]
@[simp] theorem State.setClaims_lines (s : State) (f : Fin 32 → Claim → Claim) : (s.setClaims f).lines = s.lines := by
  simp only [State.setClaims]
@[simp] theorem State.setClaims_slots (s : State) (f : Fin 32 → Claim → Claim) : (s.setClaims f).slots = s.slots := by
  simp only [State.setClaims]
@[simp] theorem State.setClaims_stations (s : State) (f : Fin 32 → Claim → Claim) : (s.setClaims f).stations = s.stations := by
  simp only [State.setClaims]
@[simp] theorem State.setClaims_served (s : State) (f : Fin 32 → Claim → Claim) : (s.setClaims f).served = s.served := by
  simp only [State.setClaims]
@[simp] theorem State.setClaims_console (s : State) (f : Fin 32 → Claim → Claim) : (s.setClaims f).console = s.console := by
  simp only [State.setClaims]
@[simp] theorem State.setClaims_radio (s : State) (f : Fin 32 → Claim → Claim) : (s.setClaims f).radio = s.radio := by
  simp only [State.setClaims]
@[simp] theorem State.setClaims_links (s : State) (f : Fin 32 → Claim → Claim) : (s.setClaims f).links = s.links := by
  simp only [State.setClaims]
@[simp] theorem State.setClaims_entries (s : State) (f : Fin 32 → Claim → Claim) : (s.setClaims f).entries = s.entries := by
  simp only [State.setClaims]
@[simp] theorem State.setClaims_outputs (s : State) (f : Fin 32 → Claim → Claim) : (s.setClaims f).outputs = s.outputs := by
  simp only [State.setClaims]
@[simp] theorem State.setClaims_bus (s : State) (f : Fin 32 → Claim → Claim) : (s.setClaims f).bus = s.bus := by
  simp only [State.setClaims]
@[simp] theorem State.setClaims_elements (s : State) (f : Fin 32 → Claim → Claim) : (s.setClaims f).elements = s.elements := by
  simp only [State.setClaims]
@[simp] theorem State.setClaims_claims (s : State) (f : Fin 32 → Claim → Claim) :
    (s.setClaims f).claims = s.claims.update f := by simp only [State.setClaims]
@[simp] theorem State.setClaims_sensors (s : State) (f : Fin 32 → Claim → Claim) : (s.setClaims f).sensors = s.sensors := by
  simp only [State.setClaims]
@[simp] theorem State.setClaims_scores (s : State) (f : Fin 32 → Claim → Claim) : (s.setClaims f).scores = s.scores := by
  simp only [State.setClaims]
@[simp] theorem State.setClaims_trunk (s : State) (f : Fin 32 → Claim → Claim) : (s.setClaims f).trunk = s.trunk := by
  simp only [State.setClaims]
@[simp] theorem State.setClaims_pending (s : State) (f : Fin 32 → Claim → Claim) : (s.setClaims f).pending = s.pending := by
  simp only [State.setClaims]

@[simp] theorem State.setSensor_tables (s : State) (e : Fin 32) (k : Fin 2) (f : Sensor → Sensor) :
    (s.setSensor e k f).tables = s.tables := rfl
@[simp] theorem State.setSensor_clocks (s : State) (e : Fin 32) (k : Fin 2) (f : Sensor → Sensor) :
    (s.setSensor e k f).clocks = s.clocks := rfl
@[simp] theorem State.setSensor_split (s : State) (e : Fin 32) (k : Fin 2) (f : Sensor → Sensor) :
    (s.setSensor e k f).split = s.split := rfl
@[simp] theorem State.setSensor_lines (s : State) (e : Fin 32) (k : Fin 2) (f : Sensor → Sensor) :
    (s.setSensor e k f).lines = s.lines := rfl
@[simp] theorem State.setSensor_slots (s : State) (e : Fin 32) (k : Fin 2) (f : Sensor → Sensor) :
    (s.setSensor e k f).slots = s.slots := rfl
@[simp] theorem State.setSensor_stations (s : State) (e : Fin 32) (k : Fin 2) (f : Sensor → Sensor) :
    (s.setSensor e k f).stations = s.stations := rfl
@[simp] theorem State.setSensor_served (s : State) (e : Fin 32) (k : Fin 2) (f : Sensor → Sensor) :
    (s.setSensor e k f).served = s.served := rfl
@[simp] theorem State.setSensor_console (s : State) (e : Fin 32) (k : Fin 2) (f : Sensor → Sensor) :
    (s.setSensor e k f).console = s.console := rfl
@[simp] theorem State.setSensor_radio (s : State) (e : Fin 32) (k : Fin 2) (f : Sensor → Sensor) :
    (s.setSensor e k f).radio = s.radio := rfl
@[simp] theorem State.setSensor_links (s : State) (e : Fin 32) (k : Fin 2) (f : Sensor → Sensor) :
    (s.setSensor e k f).links = s.links := rfl
@[simp] theorem State.setSensor_entries (s : State) (e : Fin 32) (k : Fin 2) (f : Sensor → Sensor) :
    (s.setSensor e k f).entries = s.entries := rfl
@[simp] theorem State.setSensor_outputs (s : State) (e : Fin 32) (k : Fin 2) (f : Sensor → Sensor) :
    (s.setSensor e k f).outputs = s.outputs := rfl
@[simp] theorem State.setSensor_bus (s : State) (e : Fin 32) (k : Fin 2) (f : Sensor → Sensor) :
    (s.setSensor e k f).bus = s.bus := rfl
@[simp] theorem State.setSensor_elements (s : State) (e : Fin 32) (k : Fin 2) (f : Sensor → Sensor) :
    (s.setSensor e k f).elements = s.elements := rfl
@[simp] theorem State.setSensor_claims (s : State) (e : Fin 32) (k : Fin 2) (f : Sensor → Sensor) :
    (s.setSensor e k f).claims = s.claims := rfl
@[simp] theorem State.setSensor_sensors (s : State) (e : Fin 32) (k : Fin 2) (f : Sensor → Sensor) :
    (s.setSensor e k f).sensors = s.sensors.modify e (·.modify k f) := rfl
@[simp] theorem State.setSensor_scores (s : State) (e : Fin 32) (k : Fin 2) (f : Sensor → Sensor) :
    (s.setSensor e k f).scores = s.scores := rfl
@[simp] theorem State.setSensor_trunk (s : State) (e : Fin 32) (k : Fin 2) (f : Sensor → Sensor) :
    (s.setSensor e k f).trunk = s.trunk := rfl
@[simp] theorem State.setSensor_pending (s : State) (e : Fin 32) (k : Fin 2) (f : Sensor → Sensor) :
    (s.setSensor e k f).pending = s.pending := rfl

@[simp] theorem State.setSensors_tables (s : State) (f : Fin 32 → Fin 2 → Sensor → Sensor) :
    (s.setSensors f).tables = s.tables := by simp only [State.setSensors]
@[simp] theorem State.setSensors_clocks (s : State) (f : Fin 32 → Fin 2 → Sensor → Sensor) :
    (s.setSensors f).clocks = s.clocks := by simp only [State.setSensors]
@[simp] theorem State.setSensors_split (s : State) (f : Fin 32 → Fin 2 → Sensor → Sensor) :
    (s.setSensors f).split = s.split := by simp only [State.setSensors]
@[simp] theorem State.setSensors_lines (s : State) (f : Fin 32 → Fin 2 → Sensor → Sensor) :
    (s.setSensors f).lines = s.lines := by simp only [State.setSensors]
@[simp] theorem State.setSensors_slots (s : State) (f : Fin 32 → Fin 2 → Sensor → Sensor) :
    (s.setSensors f).slots = s.slots := by simp only [State.setSensors]
@[simp] theorem State.setSensors_stations (s : State) (f : Fin 32 → Fin 2 → Sensor → Sensor) :
    (s.setSensors f).stations = s.stations := by simp only [State.setSensors]
@[simp] theorem State.setSensors_served (s : State) (f : Fin 32 → Fin 2 → Sensor → Sensor) :
    (s.setSensors f).served = s.served := by simp only [State.setSensors]
@[simp] theorem State.setSensors_console (s : State) (f : Fin 32 → Fin 2 → Sensor → Sensor) :
    (s.setSensors f).console = s.console := by simp only [State.setSensors]
@[simp] theorem State.setSensors_radio (s : State) (f : Fin 32 → Fin 2 → Sensor → Sensor) :
    (s.setSensors f).radio = s.radio := by simp only [State.setSensors]
@[simp] theorem State.setSensors_links (s : State) (f : Fin 32 → Fin 2 → Sensor → Sensor) :
    (s.setSensors f).links = s.links := by simp only [State.setSensors]
@[simp] theorem State.setSensors_entries (s : State) (f : Fin 32 → Fin 2 → Sensor → Sensor) :
    (s.setSensors f).entries = s.entries := by simp only [State.setSensors]
@[simp] theorem State.setSensors_outputs (s : State) (f : Fin 32 → Fin 2 → Sensor → Sensor) :
    (s.setSensors f).outputs = s.outputs := by simp only [State.setSensors]
@[simp] theorem State.setSensors_bus (s : State) (f : Fin 32 → Fin 2 → Sensor → Sensor) : (s.setSensors f).bus = s.bus := by
  simp only [State.setSensors]
@[simp] theorem State.setSensors_elements (s : State) (f : Fin 32 → Fin 2 → Sensor → Sensor) :
    (s.setSensors f).elements = s.elements := by simp only [State.setSensors]
@[simp] theorem State.setSensors_claims (s : State) (f : Fin 32 → Fin 2 → Sensor → Sensor) :
    (s.setSensors f).claims = s.claims := by simp only [State.setSensors]
@[simp] theorem State.setSensors_sensors (s : State) (f : Fin 32 → Fin 2 → Sensor → Sensor) :
    (s.setSensors f).sensors = s.sensors.update fun e t => t.update (f e) := by simp only [State.setSensors]
@[simp] theorem State.setSensors_scores (s : State) (f : Fin 32 → Fin 2 → Sensor → Sensor) :
    (s.setSensors f).scores = s.scores := by simp only [State.setSensors]
@[simp] theorem State.setSensors_trunk (s : State) (f : Fin 32 → Fin 2 → Sensor → Sensor) :
    (s.setSensors f).trunk = s.trunk := by simp only [State.setSensors]
@[simp] theorem State.setSensors_pending (s : State) (f : Fin 32 → Fin 2 → Sensor → Sensor) :
    (s.setSensors f).pending = s.pending := by simp only [State.setSensors]

@[simp] theorem State.setScores_tables (s : State) (h : Half) (f : Scores → Scores) : (s.setScores h f).tables = s.tables := rfl
@[simp] theorem State.setScores_clocks (s : State) (h : Half) (f : Scores → Scores) : (s.setScores h f).clocks = s.clocks := rfl
@[simp] theorem State.setScores_split (s : State) (h : Half) (f : Scores → Scores) : (s.setScores h f).split = s.split := rfl
@[simp] theorem State.setScores_lines (s : State) (h : Half) (f : Scores → Scores) : (s.setScores h f).lines = s.lines := rfl
@[simp] theorem State.setScores_slots (s : State) (h : Half) (f : Scores → Scores) : (s.setScores h f).slots = s.slots := rfl
@[simp] theorem State.setScores_stations (s : State) (h : Half) (f : Scores → Scores) :
    (s.setScores h f).stations = s.stations := rfl
@[simp] theorem State.setScores_served (s : State) (h : Half) (f : Scores → Scores) : (s.setScores h f).served = s.served := rfl
@[simp] theorem State.setScores_console (s : State) (h : Half) (f : Scores → Scores) :
    (s.setScores h f).console = s.console := rfl
@[simp] theorem State.setScores_radio (s : State) (h : Half) (f : Scores → Scores) : (s.setScores h f).radio = s.radio := rfl
@[simp] theorem State.setScores_links (s : State) (h : Half) (f : Scores → Scores) : (s.setScores h f).links = s.links := rfl
@[simp] theorem State.setScores_entries (s : State) (h : Half) (f : Scores → Scores) :
    (s.setScores h f).entries = s.entries := rfl
@[simp] theorem State.setScores_outputs (s : State) (h : Half) (f : Scores → Scores) :
    (s.setScores h f).outputs = s.outputs := rfl
@[simp] theorem State.setScores_bus (s : State) (h : Half) (f : Scores → Scores) : (s.setScores h f).bus = s.bus := rfl
@[simp] theorem State.setScores_elements (s : State) (h : Half) (f : Scores → Scores) :
    (s.setScores h f).elements = s.elements := rfl
@[simp] theorem State.setScores_claims (s : State) (h : Half) (f : Scores → Scores) : (s.setScores h f).claims = s.claims := rfl
@[simp] theorem State.setScores_sensors (s : State) (h : Half) (f : Scores → Scores) :
    (s.setScores h f).sensors = s.sensors := rfl
@[simp] theorem State.setScores_scores (s : State) (h : Half) (f : Scores → Scores) :
    (s.setScores h f).scores = s.scores.modify h f := rfl
@[simp] theorem State.setScores_trunk (s : State) (h : Half) (f : Scores → Scores) : (s.setScores h f).trunk = s.trunk := rfl
@[simp] theorem State.setScores_pending (s : State) (h : Half) (f : Scores → Scores) :
    (s.setScores h f).pending = s.pending := rfl

@[simp] theorem State.setTrunk_tables (s : State) (f : Trunk → Trunk) : (s.setTrunk f).tables = s.tables := rfl
@[simp] theorem State.setTrunk_clocks (s : State) (f : Trunk → Trunk) : (s.setTrunk f).clocks = s.clocks := rfl
@[simp] theorem State.setTrunk_split (s : State) (f : Trunk → Trunk) : (s.setTrunk f).split = s.split := rfl
@[simp] theorem State.setTrunk_lines (s : State) (f : Trunk → Trunk) : (s.setTrunk f).lines = s.lines := rfl
@[simp] theorem State.setTrunk_slots (s : State) (f : Trunk → Trunk) : (s.setTrunk f).slots = s.slots := rfl
@[simp] theorem State.setTrunk_stations (s : State) (f : Trunk → Trunk) : (s.setTrunk f).stations = s.stations := rfl
@[simp] theorem State.setTrunk_served (s : State) (f : Trunk → Trunk) : (s.setTrunk f).served = s.served := rfl
@[simp] theorem State.setTrunk_console (s : State) (f : Trunk → Trunk) : (s.setTrunk f).console = s.console := rfl
@[simp] theorem State.setTrunk_radio (s : State) (f : Trunk → Trunk) : (s.setTrunk f).radio = s.radio := rfl
@[simp] theorem State.setTrunk_links (s : State) (f : Trunk → Trunk) : (s.setTrunk f).links = s.links := rfl
@[simp] theorem State.setTrunk_entries (s : State) (f : Trunk → Trunk) : (s.setTrunk f).entries = s.entries := rfl
@[simp] theorem State.setTrunk_outputs (s : State) (f : Trunk → Trunk) : (s.setTrunk f).outputs = s.outputs := rfl
@[simp] theorem State.setTrunk_bus (s : State) (f : Trunk → Trunk) : (s.setTrunk f).bus = s.bus := rfl
@[simp] theorem State.setTrunk_elements (s : State) (f : Trunk → Trunk) : (s.setTrunk f).elements = s.elements := rfl
@[simp] theorem State.setTrunk_claims (s : State) (f : Trunk → Trunk) : (s.setTrunk f).claims = s.claims := rfl
@[simp] theorem State.setTrunk_sensors (s : State) (f : Trunk → Trunk) : (s.setTrunk f).sensors = s.sensors := rfl
@[simp] theorem State.setTrunk_scores (s : State) (f : Trunk → Trunk) : (s.setTrunk f).scores = s.scores := rfl
@[simp] theorem State.setTrunk_trunk (s : State) (f : Trunk → Trunk) : (s.setTrunk f).trunk = f s.trunk := rfl
@[simp] theorem State.setTrunk_pending (s : State) (f : Trunk → Trunk) : (s.setTrunk f).pending = s.pending := rfl

@[simp] theorem State.report_tables (s : State) (r : Report) : (s.report r).tables = s.tables := rfl
@[simp] theorem State.report_clocks (s : State) (r : Report) : (s.report r).clocks = s.clocks := rfl
@[simp] theorem State.report_split (s : State) (r : Report) : (s.report r).split = s.split := rfl
@[simp] theorem State.report_lines (s : State) (r : Report) : (s.report r).lines = s.lines := rfl
@[simp] theorem State.report_slots (s : State) (r : Report) : (s.report r).slots = s.slots := rfl
@[simp] theorem State.report_stations (s : State) (r : Report) : (s.report r).stations = s.stations := rfl
@[simp] theorem State.report_served (s : State) (r : Report) : (s.report r).served = s.served := rfl
@[simp] theorem State.report_console (s : State) (r : Report) : (s.report r).console = s.console := rfl
@[simp] theorem State.report_radio (s : State) (r : Report) : (s.report r).radio = s.radio := rfl
@[simp] theorem State.report_links (s : State) (r : Report) : (s.report r).links = s.links := rfl
@[simp] theorem State.report_entries (s : State) (r : Report) : (s.report r).entries = s.entries := rfl
@[simp] theorem State.report_outputs (s : State) (r : Report) : (s.report r).outputs = s.outputs := rfl
@[simp] theorem State.report_bus (s : State) (r : Report) : (s.report r).bus = s.bus := rfl
@[simp] theorem State.report_elements (s : State) (r : Report) : (s.report r).elements = s.elements := rfl
@[simp] theorem State.report_claims (s : State) (r : Report) : (s.report r).claims = s.claims := rfl
@[simp] theorem State.report_sensors (s : State) (r : Report) : (s.report r).sensors = s.sensors := rfl
@[simp] theorem State.report_scores (s : State) (r : Report) : (s.report r).scores = s.scores := rfl
@[simp] theorem State.report_trunk (s : State) (r : Report) : (s.report r).trunk = (s.trunk.record r).choose := rfl
@[simp] theorem State.report_pending (s : State) (r : Report) : (s.report r).pending = s.pending := rfl

@[simp] theorem State.reply_tables (s : State) (r : Reply) : (s.reply r).tables = s.tables := rfl
@[simp] theorem State.reply_clocks (s : State) (r : Reply) : (s.reply r).clocks = s.clocks := rfl
@[simp] theorem State.reply_split (s : State) (r : Reply) : (s.reply r).split = s.split := rfl
@[simp] theorem State.reply_lines (s : State) (r : Reply) : (s.reply r).lines = s.lines := rfl
@[simp] theorem State.reply_slots (s : State) (r : Reply) : (s.reply r).slots = s.slots := rfl
@[simp] theorem State.reply_stations (s : State) (r : Reply) : (s.reply r).stations = s.stations := rfl
@[simp] theorem State.reply_served (s : State) (r : Reply) : (s.reply r).served = s.served := rfl
@[simp] theorem State.reply_console (s : State) (r : Reply) : (s.reply r).console = s.console := rfl
@[simp] theorem State.reply_radio (s : State) (r : Reply) : (s.reply r).radio = s.radio := rfl
@[simp] theorem State.reply_links (s : State) (r : Reply) : (s.reply r).links = s.links := rfl
@[simp] theorem State.reply_entries (s : State) (r : Reply) : (s.reply r).entries = s.entries := rfl
@[simp] theorem State.reply_outputs (s : State) (r : Reply) : (s.reply r).outputs = s.outputs := rfl
@[simp] theorem State.reply_bus (s : State) (r : Reply) : (s.reply r).bus = s.bus := rfl
@[simp] theorem State.reply_elements (s : State) (r : Reply) : (s.reply r).elements = s.elements := rfl
@[simp] theorem State.reply_claims (s : State) (r : Reply) : (s.reply r).claims = s.claims := rfl
@[simp] theorem State.reply_sensors (s : State) (r : Reply) : (s.reply r).sensors = s.sensors := rfl
@[simp] theorem State.reply_scores (s : State) (r : Reply) : (s.reply r).scores = s.scores := rfl
@[simp] theorem State.reply_trunk (s : State) (r : Reply) :
    (s.reply r).trunk = ({ s.trunk with replies := s.trunk.replies ++ [r] } : Trunk).choose := rfl
@[simp] theorem State.reply_pending (s : State) (r : Reply) : (s.reply r).pending = s.pending := rfl

@[simp] theorem State.answer_tables (s : State) (tag : Byte) (code : ResultCode) (data : List Byte) :
    (s.answer tag code data).tables = s.tables := rfl
@[simp] theorem State.answer_clocks (s : State) (tag : Byte) (code : ResultCode) (data : List Byte) :
    (s.answer tag code data).clocks = s.clocks := rfl
@[simp] theorem State.answer_split (s : State) (tag : Byte) (code : ResultCode) (data : List Byte) :
    (s.answer tag code data).split = s.split := rfl
@[simp] theorem State.answer_lines (s : State) (tag : Byte) (code : ResultCode) (data : List Byte) :
    (s.answer tag code data).lines = s.lines := rfl
@[simp] theorem State.answer_slots (s : State) (tag : Byte) (code : ResultCode) (data : List Byte) :
    (s.answer tag code data).slots = s.slots := rfl
@[simp] theorem State.answer_stations (s : State) (tag : Byte) (code : ResultCode) (data : List Byte) :
    (s.answer tag code data).stations = s.stations := rfl
@[simp] theorem State.answer_served (s : State) (tag : Byte) (code : ResultCode) (data : List Byte) :
    (s.answer tag code data).served = s.served := rfl
@[simp] theorem State.answer_console (s : State) (tag : Byte) (code : ResultCode) (data : List Byte) :
    (s.answer tag code data).console = s.console := rfl
@[simp] theorem State.answer_radio (s : State) (tag : Byte) (code : ResultCode) (data : List Byte) :
    (s.answer tag code data).radio = s.radio := rfl
@[simp] theorem State.answer_links (s : State) (tag : Byte) (code : ResultCode) (data : List Byte) :
    (s.answer tag code data).links = s.links := rfl
@[simp] theorem State.answer_entries (s : State) (tag : Byte) (code : ResultCode) (data : List Byte) :
    (s.answer tag code data).entries = s.entries := rfl
@[simp] theorem State.answer_outputs (s : State) (tag : Byte) (code : ResultCode) (data : List Byte) :
    (s.answer tag code data).outputs = s.outputs := rfl
@[simp] theorem State.answer_bus (s : State) (tag : Byte) (code : ResultCode) (data : List Byte) :
    (s.answer tag code data).bus = s.bus := rfl
@[simp] theorem State.answer_elements (s : State) (tag : Byte) (code : ResultCode) (data : List Byte) :
    (s.answer tag code data).elements = s.elements := rfl
@[simp] theorem State.answer_claims (s : State) (tag : Byte) (code : ResultCode) (data : List Byte) :
    (s.answer tag code data).claims = s.claims := rfl
@[simp] theorem State.answer_sensors (s : State) (tag : Byte) (code : ResultCode) (data : List Byte) :
    (s.answer tag code data).sensors = s.sensors := rfl
@[simp] theorem State.answer_scores (s : State) (tag : Byte) (code : ResultCode) (data : List Byte) :
    (s.answer tag code data).scores = s.scores := rfl
@[simp] theorem State.answer_trunk (s : State) (tag : Byte) (code : ResultCode) (data : List Byte) :
    (s.answer tag code data).trunk = ({ s.trunk with replies := s.trunk.replies ++ [⟨tag, code, data, false⟩] } : Trunk).choose := rfl
@[simp] theorem State.answer_pending (s : State) (tag : Byte) (code : ResultCode) (data : List Byte) :
    (s.answer tag code data).pending = s.pending := rfl

@[simp] theorem State.tell_tables (s : State) (n : Fin 12) (e : Byte) (a : ClaimAnswer) : (s.tell n e a).tables = s.tables := rfl
@[simp] theorem State.tell_clocks (s : State) (n : Fin 12) (e : Byte) (a : ClaimAnswer) : (s.tell n e a).clocks = s.clocks := rfl
@[simp] theorem State.tell_split (s : State) (n : Fin 12) (e : Byte) (a : ClaimAnswer) : (s.tell n e a).split = s.split := rfl
@[simp] theorem State.tell_lines (s : State) (n : Fin 12) (e : Byte) (a : ClaimAnswer) : (s.tell n e a).lines = s.lines := rfl
@[simp] theorem State.tell_slots (s : State) (n : Fin 12) (e : Byte) (a : ClaimAnswer) : (s.tell n e a).slots = s.slots := rfl
@[simp] theorem State.tell_stations (s : State) (n : Fin 12) (e : Byte) (a : ClaimAnswer) :
    (s.tell n e a).stations = s.stations := rfl
@[simp] theorem State.tell_served (s : State) (n : Fin 12) (e : Byte) (a : ClaimAnswer) : (s.tell n e a).served = s.served := rfl
@[simp] theorem State.tell_console (s : State) (n : Fin 12) (e : Byte) (a : ClaimAnswer) :
    (s.tell n e a).console = s.console.modify n (·.pushReply (.elementReply e a)) := rfl
@[simp] theorem State.tell_radio (s : State) (n : Fin 12) (e : Byte) (a : ClaimAnswer) : (s.tell n e a).radio = s.radio := rfl
@[simp] theorem State.tell_links (s : State) (n : Fin 12) (e : Byte) (a : ClaimAnswer) : (s.tell n e a).links = s.links := rfl
@[simp] theorem State.tell_entries (s : State) (n : Fin 12) (e : Byte) (a : ClaimAnswer) :
    (s.tell n e a).entries = s.entries := rfl
@[simp] theorem State.tell_outputs (s : State) (n : Fin 12) (e : Byte) (a : ClaimAnswer) :
    (s.tell n e a).outputs = s.outputs := rfl
@[simp] theorem State.tell_bus (s : State) (n : Fin 12) (e : Byte) (a : ClaimAnswer) : (s.tell n e a).bus = s.bus := rfl
@[simp] theorem State.tell_elements (s : State) (n : Fin 12) (e : Byte) (a : ClaimAnswer) :
    (s.tell n e a).elements = s.elements := rfl
@[simp] theorem State.tell_claims (s : State) (n : Fin 12) (e : Byte) (a : ClaimAnswer) : (s.tell n e a).claims = s.claims := rfl
@[simp] theorem State.tell_sensors (s : State) (n : Fin 12) (e : Byte) (a : ClaimAnswer) :
    (s.tell n e a).sensors = s.sensors := rfl
@[simp] theorem State.tell_scores (s : State) (n : Fin 12) (e : Byte) (a : ClaimAnswer) : (s.tell n e a).scores = s.scores := rfl
@[simp] theorem State.tell_trunk (s : State) (n : Fin 12) (e : Byte) (a : ClaimAnswer) : (s.tell n e a).trunk = s.trunk := rfl
@[simp] theorem State.tell_pending (s : State) (n : Fin 12) (e : Byte) (a : ClaimAnswer) :
    (s.tell n e a).pending = s.pending := rfl

@[simp] theorem State.applyOutput_tables (s : State) (e : Fin 32) (k : Fin 2) (v : Byte) :
    (s.applyOutput e k v).tables = s.tables := rfl
@[simp] theorem State.applyOutput_clocks (s : State) (e : Fin 32) (k : Fin 2) (v : Byte) :
    (s.applyOutput e k v).clocks = s.clocks := rfl
@[simp] theorem State.applyOutput_split (s : State) (e : Fin 32) (k : Fin 2) (v : Byte) :
    (s.applyOutput e k v).split = s.split := rfl
@[simp] theorem State.applyOutput_lines (s : State) (e : Fin 32) (k : Fin 2) (v : Byte) :
    (s.applyOutput e k v).lines = s.lines := rfl
@[simp] theorem State.applyOutput_slots (s : State) (e : Fin 32) (k : Fin 2) (v : Byte) :
    (s.applyOutput e k v).slots = s.slots := rfl
@[simp] theorem State.applyOutput_stations (s : State) (e : Fin 32) (k : Fin 2) (v : Byte) :
    (s.applyOutput e k v).stations = s.stations := rfl
@[simp] theorem State.applyOutput_served (s : State) (e : Fin 32) (k : Fin 2) (v : Byte) :
    (s.applyOutput e k v).served = s.served := rfl
@[simp] theorem State.applyOutput_console (s : State) (e : Fin 32) (k : Fin 2) (v : Byte) :
    (s.applyOutput e k v).console = s.console := rfl
@[simp] theorem State.applyOutput_radio (s : State) (e : Fin 32) (k : Fin 2) (v : Byte) :
    (s.applyOutput e k v).radio = s.radio := rfl
@[simp] theorem State.applyOutput_links (s : State) (e : Fin 32) (k : Fin 2) (v : Byte) :
    (s.applyOutput e k v).links = s.links := rfl
@[simp] theorem State.applyOutput_entries (s : State) (e : Fin 32) (k : Fin 2) (v : Byte) :
    (s.applyOutput e k v).entries = s.entries := rfl
@[simp] theorem State.applyOutput_outputs (s : State) (e : Fin 32) (k : Fin 2) (v : Byte) :
    (s.applyOutput e k v).outputs = s.outputs.modify e (·.modify k (·.apply ((s.entries.get e).outputs.get k) v)) := rfl
@[simp] theorem State.applyOutput_bus (s : State) (e : Fin 32) (k : Fin 2) (v : Byte) : (s.applyOutput e k v).bus = s.bus := rfl
@[simp] theorem State.applyOutput_elements (s : State) (e : Fin 32) (k : Fin 2) (v : Byte) :
    (s.applyOutput e k v).elements = s.elements := rfl
@[simp] theorem State.applyOutput_claims (s : State) (e : Fin 32) (k : Fin 2) (v : Byte) :
    (s.applyOutput e k v).claims = s.claims := rfl
@[simp] theorem State.applyOutput_sensors (s : State) (e : Fin 32) (k : Fin 2) (v : Byte) :
    (s.applyOutput e k v).sensors = s.sensors := rfl
@[simp] theorem State.applyOutput_scores (s : State) (e : Fin 32) (k : Fin 2) (v : Byte) :
    (s.applyOutput e k v).scores = s.scores := rfl
@[simp] theorem State.applyOutput_trunk (s : State) (e : Fin 32) (k : Fin 2) (v : Byte) :
    (s.applyOutput e k v).trunk = s.trunk := rfl
@[simp] theorem State.applyOutput_pending (s : State) (e : Fin 32) (k : Fin 2) (v : Byte) :
    (s.applyOutput e k v).pending = s.pending := rfl

/-- A report touches the trunk port only. -/
theorem State.report_eq (s : State) (r : Report) : s.report r = { s with trunk := (s.trunk.record r).choose } := rfl

/-- The CLOCK_STATE report touches the trunk port only. -/
theorem State.reportClock_eq (s : State) (h : Half) :
    s.reportClock h = { s with trunk := (s.trunk.record (.clockState h (s.clocks.get h).state (s.clocks.get h).commandHold
      (s.clocks.get h).lineHold (s.clocks.get h).stopHold (s.clocks.get h).phase)).choose } := rfl

/-- A credit touches the scores only. -/
theorem State.credit_eq (s : State) (h : Half) (points : Nat) (side : Alliance) :
    s.credit h points side = { s with scores := (s.credit h points side).scores } := by cases side <;> rfl

end Sys2Proof.Machine
end

