-- ==== Sys2Proof/Laws/Frames.lean ====
section
/-! SUPPORT. What each composite operation leaves as it was: every field of State that it does not name stays. -/

namespace Sys2Proof.Machine

theorem foldl_keeps {α β : Type} (g : State → α) (f : State → β → State) (h : ∀ s x, g (f s x) = g s) :
    ∀ (l : List β) (s : State), g (l.foldl f s) = g s
  | [], _ => rfl
  | x :: l, s => (foldl_keeps g f h l (f s x)).trans (h s x)

/-! ## Claims -/

@[simp] theorem State.credit_keeps (s : State) (h : Half) (points : Nat) (side : Alliance) :
    (s.credit h points side).tables = s.tables ∧ (s.credit h points side).clocks = s.clocks ∧
    (s.credit h points side).split = s.split ∧ (s.credit h points side).lines = s.lines ∧
    (s.credit h points side).slots = s.slots ∧ (s.credit h points side).stations = s.stations ∧
    (s.credit h points side).served = s.served ∧ (s.credit h points side).console = s.console ∧
    (s.credit h points side).radio = s.radio ∧ (s.credit h points side).links = s.links ∧
    (s.credit h points side).entries = s.entries ∧ (s.credit h points side).outputs = s.outputs ∧
    (s.credit h points side).bus = s.bus ∧ (s.credit h points side).elements = s.elements ∧
    (s.credit h points side).claims = s.claims ∧ (s.credit h points side).sensors = s.sensors ∧
    (s.credit h points side).trunk = s.trunk ∧ (s.credit h points side).pending = s.pending := by
  cases side <;> simp [State.credit]

@[simp] theorem State.grant_keeps (s : State) (e : Fin 32) (n : Fin 12) (w : List (Fin 12)) :
    (s.grant e n w).tables = s.tables ∧ (s.grant e n w).clocks = s.clocks ∧ (s.grant e n w).split = s.split ∧
    (s.grant e n w).lines = s.lines ∧ (s.grant e n w).slots = s.slots ∧ (s.grant e n w).stations = s.stations ∧
    (s.grant e n w).served = s.served ∧ (s.grant e n w).console = s.console ∧ (s.grant e n w).radio = s.radio ∧
    (s.grant e n w).links = s.links ∧ (s.grant e n w).entries = s.entries ∧ (s.grant e n w).outputs = s.outputs ∧
    (s.grant e n w).bus = s.bus ∧ (s.grant e n w).elements = s.elements ∧ (s.grant e n w).sensors = s.sensors ∧
    (s.grant e n w).scores = s.scores ∧ (s.grant e n w).trunk = s.trunk ∧ (s.grant e n w).pending = s.pending := by
  simp [State.grant]

@[simp] theorem State.promote_keeps (s : State) (e : Fin 32) :
    (s.promote e).tables = s.tables ∧ (s.promote e).clocks = s.clocks ∧ (s.promote e).split = s.split ∧
    (s.promote e).lines = s.lines ∧ (s.promote e).slots = s.slots ∧ (s.promote e).stations = s.stations ∧
    (s.promote e).served = s.served ∧ (s.promote e).radio = s.radio ∧ (s.promote e).links = s.links ∧
    (s.promote e).entries = s.entries ∧ (s.promote e).outputs = s.outputs ∧ (s.promote e).bus = s.bus ∧
    (s.promote e).elements = s.elements ∧ (s.promote e).sensors = s.sensors ∧ (s.promote e).scores = s.scores ∧
    (s.promote e).trunk = s.trunk ∧ (s.promote e).pending = s.pending := by
  simp only [State.promote]
  and_intros <;> (repeat' split) <;> simp

@[simp] theorem State.expireHold_keeps (s : State) (e : Fin 32) :
    (s.expireHold e).tables = s.tables ∧ (s.expireHold e).clocks = s.clocks ∧ (s.expireHold e).split = s.split ∧
    (s.expireHold e).lines = s.lines ∧ (s.expireHold e).slots = s.slots ∧ (s.expireHold e).stations = s.stations ∧
    (s.expireHold e).served = s.served ∧ (s.expireHold e).radio = s.radio ∧ (s.expireHold e).links = s.links ∧
    (s.expireHold e).entries = s.entries ∧ (s.expireHold e).outputs = s.outputs ∧ (s.expireHold e).bus = s.bus ∧
    (s.expireHold e).elements = s.elements ∧ (s.expireHold e).sensors = s.sensors ∧
    (s.expireHold e).scores = s.scores ∧ (s.expireHold e).trunk = s.trunk ∧ (s.expireHold e).pending = s.pending := by
  simp only [State.expireHold]
  and_intros <;> (repeat' split) <;> simp

@[simp] theorem State.flush_keeps (s : State) (reason : ClaimReason) (e : Fin 32) :
    (s.flush reason e).tables = s.tables ∧ (s.flush reason e).clocks = s.clocks ∧ (s.flush reason e).split = s.split ∧
    (s.flush reason e).lines = s.lines ∧ (s.flush reason e).slots = s.slots ∧
    (s.flush reason e).stations = s.stations ∧ (s.flush reason e).served = s.served ∧
    (s.flush reason e).radio = s.radio ∧ (s.flush reason e).links = s.links ∧ (s.flush reason e).entries = s.entries ∧
    (s.flush reason e).outputs = s.outputs ∧ (s.flush reason e).bus = s.bus ∧
    (s.flush reason e).elements = s.elements ∧ (s.flush reason e).sensors = s.sensors ∧
    (s.flush reason e).scores = s.scores ∧ (s.flush reason e).trunk = s.trunk ∧
    (s.flush reason e).pending = s.pending := by
  simp only [State.flush]
  and_intros <;> (repeat' split) <;> first | rfl | (refine (foldl_keeps _ _ (fun t x => by simp) _ _).trans ?_; simp)

@[simp] theorem State.flushStopped_keeps (s : State) (h : Half) :
    (s.flushStopped h).tables = s.tables ∧ (s.flushStopped h).clocks = s.clocks ∧ (s.flushStopped h).split = s.split ∧
    (s.flushStopped h).lines = s.lines ∧ (s.flushStopped h).slots = s.slots ∧
    (s.flushStopped h).stations = s.stations ∧ (s.flushStopped h).served = s.served ∧
    (s.flushStopped h).radio = s.radio ∧ (s.flushStopped h).links = s.links ∧ (s.flushStopped h).entries = s.entries ∧
    (s.flushStopped h).outputs = s.outputs ∧ (s.flushStopped h).bus = s.bus ∧
    (s.flushStopped h).elements = s.elements ∧ (s.flushStopped h).sensors = s.sensors ∧
    (s.flushStopped h).scores = s.scores ∧ (s.flushStopped h).trunk = s.trunk ∧
    (s.flushStopped h).pending = s.pending := by
  simp only [State.flushStopped]
  and_intros <;> exact foldl_keeps _ _ (fun t x => by split <;> simp) _ _

@[simp] theorem State.flushPhase_keeps (s : State) (h : Half) (kind : PhaseKind) (p : Profile) :
    (s.flushPhase h kind p).tables = s.tables ∧ (s.flushPhase h kind p).clocks = s.clocks ∧
    (s.flushPhase h kind p).split = s.split ∧ (s.flushPhase h kind p).lines = s.lines ∧
    (s.flushPhase h kind p).slots = s.slots ∧ (s.flushPhase h kind p).stations = s.stations ∧
    (s.flushPhase h kind p).served = s.served ∧ (s.flushPhase h kind p).radio = s.radio ∧
    (s.flushPhase h kind p).links = s.links ∧ (s.flushPhase h kind p).entries = s.entries ∧
    (s.flushPhase h kind p).outputs = s.outputs ∧ (s.flushPhase h kind p).bus = s.bus ∧
    (s.flushPhase h kind p).elements = s.elements ∧ (s.flushPhase h kind p).sensors = s.sensors ∧
    (s.flushPhase h kind p).scores = s.scores ∧ (s.flushPhase h kind p).trunk = s.trunk ∧
    (s.flushPhase h kind p).pending = s.pending := by
  simp only [State.flushPhase]
  and_intros <;> exact foldl_keeps _ _ (fun t x => by split <;> simp) _ _

@[simp] theorem State.flushSilent_keeps (s : State) (h : Half) :
    (s.flushSilent h).tables = s.tables ∧ (s.flushSilent h).clocks = s.clocks ∧ (s.flushSilent h).split = s.split ∧
    (s.flushSilent h).lines = s.lines ∧ (s.flushSilent h).slots = s.slots ∧ (s.flushSilent h).stations = s.stations ∧
    (s.flushSilent h).served = s.served ∧ (s.flushSilent h).console = s.console ∧ (s.flushSilent h).radio = s.radio ∧
    (s.flushSilent h).links = s.links ∧ (s.flushSilent h).entries = s.entries ∧
    (s.flushSilent h).outputs = s.outputs ∧ (s.flushSilent h).bus = s.bus ∧ (s.flushSilent h).elements = s.elements ∧
    (s.flushSilent h).sensors = s.sensors ∧ (s.flushSilent h).scores = s.scores ∧ (s.flushSilent h).trunk = s.trunk ∧
    (s.flushSilent h).pending = s.pending := by
  simp [State.flushSilent]

@[simp] theorem State.dropStation_keeps (s : State) (n : Fin 12) (e : Fin 32) :
    (s.dropStation n e).tables = s.tables ∧ (s.dropStation n e).clocks = s.clocks ∧
    (s.dropStation n e).split = s.split ∧ (s.dropStation n e).lines = s.lines ∧ (s.dropStation n e).slots = s.slots ∧
    (s.dropStation n e).stations = s.stations ∧ (s.dropStation n e).served = s.served ∧
    (s.dropStation n e).radio = s.radio ∧ (s.dropStation n e).links = s.links ∧
    (s.dropStation n e).entries = s.entries ∧ (s.dropStation n e).outputs = s.outputs ∧
    (s.dropStation n e).bus = s.bus ∧ (s.dropStation n e).elements = s.elements ∧
    (s.dropStation n e).sensors = s.sensors ∧ (s.dropStation n e).scores = s.scores ∧
    (s.dropStation n e).trunk = s.trunk ∧ (s.dropStation n e).pending = s.pending := by
  simp only [State.dropStation]
  and_intros <;> (repeat' split) <;> simp

@[simp] theorem State.dropClaims_keeps (s : State) (n : Fin 12) :
    (s.dropClaims n).tables = s.tables ∧ (s.dropClaims n).clocks = s.clocks ∧ (s.dropClaims n).split = s.split ∧
    (s.dropClaims n).lines = s.lines ∧ (s.dropClaims n).slots = s.slots ∧ (s.dropClaims n).stations = s.stations ∧
    (s.dropClaims n).served = s.served ∧ (s.dropClaims n).radio = s.radio ∧ (s.dropClaims n).links = s.links ∧
    (s.dropClaims n).entries = s.entries ∧ (s.dropClaims n).outputs = s.outputs ∧ (s.dropClaims n).bus = s.bus ∧
    (s.dropClaims n).elements = s.elements ∧ (s.dropClaims n).sensors = s.sensors ∧
    (s.dropClaims n).scores = s.scores ∧ (s.dropClaims n).trunk = s.trunk ∧ (s.dropClaims n).pending = s.pending := by
  simp only [State.dropClaims]
  and_intros <;> exact foldl_keeps _ _ (fun t x => by simp) _ _

@[simp] theorem State.accrue_keeps (s : State) (h : Half) (e : Fin 32) :
    (s.accrue h e).tables = s.tables ∧ (s.accrue h e).clocks = s.clocks ∧ (s.accrue h e).split = s.split ∧
    (s.accrue h e).lines = s.lines ∧ (s.accrue h e).slots = s.slots ∧ (s.accrue h e).stations = s.stations ∧
    (s.accrue h e).served = s.served ∧ (s.accrue h e).console = s.console ∧ (s.accrue h e).radio = s.radio ∧
    (s.accrue h e).links = s.links ∧ (s.accrue h e).entries = s.entries ∧ (s.accrue h e).outputs = s.outputs ∧
    (s.accrue h e).bus = s.bus ∧ (s.accrue h e).elements = s.elements ∧ (s.accrue h e).sensors = s.sensors ∧
    (s.accrue h e).trunk = s.trunk ∧ (s.accrue h e).pending = s.pending := by
  simp only [State.accrue]
  and_intros <;> (repeat' split) <;> simp

@[simp] theorem State.countHold_keeps (s : State) (e : Fin 32) :
    (s.countHold e).tables = s.tables ∧ (s.countHold e).clocks = s.clocks ∧ (s.countHold e).split = s.split ∧
    (s.countHold e).lines = s.lines ∧ (s.countHold e).slots = s.slots ∧ (s.countHold e).stations = s.stations ∧
    (s.countHold e).served = s.served ∧ (s.countHold e).radio = s.radio ∧ (s.countHold e).links = s.links ∧
    (s.countHold e).entries = s.entries ∧ (s.countHold e).outputs = s.outputs ∧ (s.countHold e).bus = s.bus ∧
    (s.countHold e).elements = s.elements ∧ (s.countHold e).sensors = s.sensors ∧ (s.countHold e).scores = s.scores ∧
    (s.countHold e).trunk = s.trunk ∧ (s.countHold e).pending = s.pending := by
  simp only [State.countHold]
  and_intros <;> (repeat' split) <;> simp

@[simp] theorem State.claimTenth_keeps (s : State) (h : Half) (e : Fin 32) :
    (s.claimTenth h e).tables = s.tables ∧ (s.claimTenth h e).clocks = s.clocks ∧ (s.claimTenth h e).split = s.split ∧
    (s.claimTenth h e).lines = s.lines ∧ (s.claimTenth h e).slots = s.slots ∧
    (s.claimTenth h e).stations = s.stations ∧ (s.claimTenth h e).served = s.served ∧
    (s.claimTenth h e).radio = s.radio ∧ (s.claimTenth h e).links = s.links ∧ (s.claimTenth h e).entries = s.entries ∧
    (s.claimTenth h e).outputs = s.outputs ∧ (s.claimTenth h e).bus = s.bus ∧
    (s.claimTenth h e).elements = s.elements ∧ (s.claimTenth h e).sensors = s.sensors ∧
    (s.claimTenth h e).trunk = s.trunk ∧ (s.claimTenth h e).pending = s.pending := by
  simp only [State.claimTenth]
  and_intros <;> (repeat' split) <;> simp

@[simp] theorem State.claimTenths_keeps (s : State) (h : Half) :
    (s.claimTenths h).tables = s.tables ∧ (s.claimTenths h).clocks = s.clocks ∧ (s.claimTenths h).split = s.split ∧
    (s.claimTenths h).lines = s.lines ∧ (s.claimTenths h).slots = s.slots ∧ (s.claimTenths h).stations = s.stations ∧
    (s.claimTenths h).served = s.served ∧ (s.claimTenths h).radio = s.radio ∧ (s.claimTenths h).links = s.links ∧
    (s.claimTenths h).entries = s.entries ∧ (s.claimTenths h).outputs = s.outputs ∧ (s.claimTenths h).bus = s.bus ∧
    (s.claimTenths h).elements = s.elements ∧ (s.claimTenths h).sensors = s.sensors ∧
    (s.claimTenths h).trunk = s.trunk ∧ (s.claimTenths h).pending = s.pending := by
  simp only [State.claimTenths]
  and_intros <;> exact foldl_keeps _ _ (fun t x => by simp) _ _

@[simp] theorem State.request_keeps (s : State) (n : Fin 12) (r : ElementRequest) :
    ((s.request n r).1).tables = s.tables ∧ ((s.request n r).1).clocks = s.clocks ∧
    ((s.request n r).1).split = s.split ∧ ((s.request n r).1).lines = s.lines ∧ ((s.request n r).1).slots = s.slots ∧
    ((s.request n r).1).stations = s.stations ∧ ((s.request n r).1).served = s.served ∧
    ((s.request n r).1).radio = s.radio ∧ ((s.request n r).1).links = s.links ∧
    ((s.request n r).1).entries = s.entries ∧ ((s.request n r).1).bus = s.bus ∧
    ((s.request n r).1).elements = s.elements ∧ ((s.request n r).1).sensors = s.sensors ∧
    ((s.request n r).1).scores = s.scores ∧ ((s.request n r).1).trunk = s.trunk ∧
    ((s.request n r).1).pending = s.pending := by
  simp only [State.request, State.doClaim, State.doRelease, State.doActuate]
  and_intros <;> (repeat' split) <;> simp

@[simp] theorem State.holdTimerExpiry_keeps (s : State) (e : Fin 32) :
    (holdTimerExpiry e s).tables = s.tables ∧ (holdTimerExpiry e s).clocks = s.clocks ∧
    (holdTimerExpiry e s).split = s.split ∧ (holdTimerExpiry e s).lines = s.lines ∧
    (holdTimerExpiry e s).slots = s.slots ∧ (holdTimerExpiry e s).stations = s.stations ∧
    (holdTimerExpiry e s).served = s.served ∧ (holdTimerExpiry e s).radio = s.radio ∧
    (holdTimerExpiry e s).links = s.links ∧ (holdTimerExpiry e s).entries = s.entries ∧
    (holdTimerExpiry e s).outputs = s.outputs ∧ (holdTimerExpiry e s).bus = s.bus ∧
    (holdTimerExpiry e s).elements = s.elements ∧ (holdTimerExpiry e s).sensors = s.sensors ∧
    (holdTimerExpiry e s).scores = s.scores ∧ (holdTimerExpiry e s).trunk = s.trunk ∧
    (holdTimerExpiry e s).pending = s.pending := by
  simp only [holdTimerExpiry]
  and_intros <;> (repeat' split) <;> simp

/-! ## Admission unit -/

@[simp] theorem State.zeroHalf_keeps (s : State) (h : Half) :
    (s.zeroHalf h).tables = s.tables ∧ (s.zeroHalf h).clocks = s.clocks ∧ (s.zeroHalf h).split = s.split ∧
    (s.zeroHalf h).lines = s.lines ∧ (s.zeroHalf h).stations = s.stations ∧ (s.zeroHalf h).served = s.served ∧
    (s.zeroHalf h).console = s.console ∧ (s.zeroHalf h).radio = s.radio ∧ (s.zeroHalf h).links = s.links ∧
    (s.zeroHalf h).entries = s.entries ∧ (s.zeroHalf h).outputs = s.outputs ∧ (s.zeroHalf h).bus = s.bus ∧
    (s.zeroHalf h).elements = s.elements ∧ (s.zeroHalf h).claims = s.claims ∧ (s.zeroHalf h).sensors = s.sensors ∧
    (s.zeroHalf h).scores = s.scores ∧ (s.zeroHalf h).trunk = s.trunk ∧ (s.zeroHalf h).pending = s.pending := by
  simp [State.zeroHalf]

@[simp] theorem State.zeroStation_keeps (s : State) (n : Fin 12) :
    (s.zeroStation n).tables = s.tables ∧ (s.zeroStation n).clocks = s.clocks ∧ (s.zeroStation n).split = s.split ∧
    (s.zeroStation n).lines = s.lines ∧ (s.zeroStation n).stations = s.stations ∧
    (s.zeroStation n).served = s.served ∧ (s.zeroStation n).console = s.console ∧ (s.zeroStation n).radio = s.radio ∧
    (s.zeroStation n).links = s.links ∧ (s.zeroStation n).entries = s.entries ∧
    (s.zeroStation n).outputs = s.outputs ∧ (s.zeroStation n).bus = s.bus ∧ (s.zeroStation n).elements = s.elements ∧
    (s.zeroStation n).claims = s.claims ∧ (s.zeroStation n).sensors = s.sensors ∧
    (s.zeroStation n).scores = s.scores ∧ (s.zeroStation n).trunk = s.trunk ∧
    (s.zeroStation n).pending = s.pending := by
  simp [State.zeroStation]

@[simp] theorem State.zeroMatch_keeps (s : State) (h : Half) :
    (s.zeroMatch h).tables = s.tables ∧ (s.zeroMatch h).clocks = s.clocks ∧ (s.zeroMatch h).split = s.split ∧
    (s.zeroMatch h).lines = s.lines ∧ (s.zeroMatch h).served = s.served ∧ (s.zeroMatch h).console = s.console ∧
    (s.zeroMatch h).radio = s.radio ∧ (s.zeroMatch h).links = s.links ∧ (s.zeroMatch h).entries = s.entries ∧
    (s.zeroMatch h).outputs = s.outputs ∧ (s.zeroMatch h).bus = s.bus ∧ (s.zeroMatch h).elements = s.elements ∧
    (s.zeroMatch h).claims = s.claims ∧ (s.zeroMatch h).sensors = s.sensors ∧ (s.zeroMatch h).scores = s.scores ∧
    (s.zeroMatch h).trunk = s.trunk ∧ (s.zeroMatch h).pending = s.pending := by
  simp [State.zeroMatch]

@[simp] theorem State.autoOverrides_keeps (s : State) (h : Half) :
    (s.autoOverrides h).tables = s.tables ∧ (s.autoOverrides h).clocks = s.clocks ∧
    (s.autoOverrides h).split = s.split ∧ (s.autoOverrides h).lines = s.lines ∧
    (s.autoOverrides h).stations = s.stations ∧ (s.autoOverrides h).served = s.served ∧
    (s.autoOverrides h).console = s.console ∧ (s.autoOverrides h).radio = s.radio ∧
    (s.autoOverrides h).links = s.links ∧ (s.autoOverrides h).entries = s.entries ∧
    (s.autoOverrides h).outputs = s.outputs ∧ (s.autoOverrides h).bus = s.bus ∧
    (s.autoOverrides h).elements = s.elements ∧ (s.autoOverrides h).claims = s.claims ∧
    (s.autoOverrides h).sensors = s.sensors ∧ (s.autoOverrides h).scores = s.scores ∧
    (s.autoOverrides h).trunk = s.trunk ∧ (s.autoOverrides h).pending = s.pending := by
  simp [State.autoOverrides]

@[simp] theorem State.endTests_keeps (s : State) (h : Half) :
    (s.endTests h).tables = s.tables ∧ (s.endTests h).clocks = s.clocks ∧ (s.endTests h).split = s.split ∧
    (s.endTests h).lines = s.lines ∧ (s.endTests h).stations = s.stations ∧ (s.endTests h).served = s.served ∧
    (s.endTests h).console = s.console ∧ (s.endTests h).radio = s.radio ∧ (s.endTests h).links = s.links ∧
    (s.endTests h).entries = s.entries ∧ (s.endTests h).outputs = s.outputs ∧ (s.endTests h).bus = s.bus ∧
    (s.endTests h).elements = s.elements ∧ (s.endTests h).claims = s.claims ∧ (s.endTests h).sensors = s.sensors ∧
    (s.endTests h).scores = s.scores ∧ (s.endTests h).trunk = s.trunk ∧ (s.endTests h).pending = s.pending := by
  simp [State.endTests]

@[simp] theorem State.drive_keeps (s : State) (n : Fin 12) (i : Fin 24) (f : ControlFrame) :
    (s.drive n i f).tables = s.tables ∧ (s.drive n i f).clocks = s.clocks ∧ (s.drive n i f).split = s.split ∧
    (s.drive n i f).lines = s.lines ∧ (s.drive n i f).served = s.served ∧ (s.drive n i f).console = s.console ∧
    (s.drive n i f).radio = s.radio ∧ (s.drive n i f).links = s.links ∧ (s.drive n i f).entries = s.entries ∧
    (s.drive n i f).outputs = s.outputs ∧ (s.drive n i f).bus = s.bus ∧ (s.drive n i f).elements = s.elements ∧
    (s.drive n i f).claims = s.claims ∧ (s.drive n i f).sensors = s.sensors ∧ (s.drive n i f).scores = s.scores ∧
    (s.drive n i f).trunk = s.trunk ∧ (s.drive n i f).pending = s.pending := by
  simp only [State.drive]
  and_intros <;> (repeat' split) <;> simp

@[simp] theorem State.latchStation_keeps (s : State) (n : Fin 12) :
    (s.latchStation n).tables = s.tables ∧ (s.latchStation n).clocks = s.clocks ∧ (s.latchStation n).split = s.split ∧
    (s.latchStation n).lines = s.lines ∧ (s.latchStation n).served = s.served ∧ (s.latchStation n).radio = s.radio ∧
    (s.latchStation n).links = s.links ∧ (s.latchStation n).entries = s.entries ∧
    (s.latchStation n).outputs = s.outputs ∧ (s.latchStation n).bus = s.bus ∧
    (s.latchStation n).elements = s.elements ∧ (s.latchStation n).sensors = s.sensors ∧
    (s.latchStation n).scores = s.scores ∧ (s.latchStation n).pending = s.pending := by
  simp only [State.latchStation]
  and_intros <;> (repeat' split) <;> simp

@[simp] theorem State.silenceTimerExpiry_keeps (s : State) (n : Fin 12) :
    (silenceTimerExpiry n s).tables = s.tables ∧ (silenceTimerExpiry n s).clocks = s.clocks ∧
    (silenceTimerExpiry n s).split = s.split ∧ (silenceTimerExpiry n s).lines = s.lines ∧
    (silenceTimerExpiry n s).served = s.served ∧ (silenceTimerExpiry n s).console = s.console ∧
    (silenceTimerExpiry n s).radio = s.radio ∧ (silenceTimerExpiry n s).links = s.links ∧
    (silenceTimerExpiry n s).entries = s.entries ∧ (silenceTimerExpiry n s).outputs = s.outputs ∧
    (silenceTimerExpiry n s).bus = s.bus ∧ (silenceTimerExpiry n s).elements = s.elements ∧
    (silenceTimerExpiry n s).claims = s.claims ∧ (silenceTimerExpiry n s).sensors = s.sensors ∧
    (silenceTimerExpiry n s).scores = s.scores ∧ (silenceTimerExpiry n s).trunk = s.trunk ∧
    (silenceTimerExpiry n s).pending = s.pending := by
  simp only [silenceTimerExpiry]
  and_intros <;> (repeat' split) <;> simp

/-! ## Scoring unit -/

@[simp] theorem State.clearScoring_keeps (s : State) (h : Half) :
    (s.clearScoring h).tables = s.tables ∧ (s.clearScoring h).clocks = s.clocks ∧ (s.clearScoring h).split = s.split ∧
    (s.clearScoring h).lines = s.lines ∧ (s.clearScoring h).slots = s.slots ∧
    (s.clearScoring h).stations = s.stations ∧ (s.clearScoring h).served = s.served ∧
    (s.clearScoring h).console = s.console ∧ (s.clearScoring h).radio = s.radio ∧ (s.clearScoring h).links = s.links ∧
    (s.clearScoring h).entries = s.entries ∧ (s.clearScoring h).outputs = s.outputs ∧ (s.clearScoring h).bus = s.bus ∧
    (s.clearScoring h).elements = s.elements ∧ (s.clearScoring h).claims = s.claims ∧
    (s.clearScoring h).trunk = s.trunk ∧ (s.clearScoring h).pending = s.pending := by
  simp [State.clearScoring]

@[simp] theorem State.reportEvent_keeps (s : State) (e : Fin 32) (k : Fin 2) (n : Nat) (l : Level) (c : Bool) (m : Nat) :
    (s.reportEvent e k n l c m).tables = s.tables ∧ (s.reportEvent e k n l c m).clocks = s.clocks ∧
    (s.reportEvent e k n l c m).split = s.split ∧ (s.reportEvent e k n l c m).lines = s.lines ∧
    (s.reportEvent e k n l c m).slots = s.slots ∧ (s.reportEvent e k n l c m).stations = s.stations ∧
    (s.reportEvent e k n l c m).served = s.served ∧ (s.reportEvent e k n l c m).console = s.console ∧
    (s.reportEvent e k n l c m).radio = s.radio ∧ (s.reportEvent e k n l c m).links = s.links ∧
    (s.reportEvent e k n l c m).entries = s.entries ∧ (s.reportEvent e k n l c m).outputs = s.outputs ∧
    (s.reportEvent e k n l c m).bus = s.bus ∧ (s.reportEvent e k n l c m).elements = s.elements ∧
    (s.reportEvent e k n l c m).claims = s.claims ∧ (s.reportEvent e k n l c m).sensors = s.sensors ∧
    (s.reportEvent e k n l c m).scores = s.scores ∧ (s.reportEvent e k n l c m).pending = s.pending := by
  simp only [State.reportEvent]
  and_intros <;> (repeat' split) <;> simp

@[simp] theorem State.tellEvent_keeps (s : State) (e : Fin 32) (k : Fin 2) (n : Nat) :
    (s.tellEvent e k n).tables = s.tables ∧ (s.tellEvent e k n).clocks = s.clocks ∧
    (s.tellEvent e k n).split = s.split ∧ (s.tellEvent e k n).lines = s.lines ∧ (s.tellEvent e k n).slots = s.slots ∧
    (s.tellEvent e k n).stations = s.stations ∧ (s.tellEvent e k n).served = s.served ∧
    (s.tellEvent e k n).console = s.console ∧ (s.tellEvent e k n).radio = s.radio ∧
    (s.tellEvent e k n).links = s.links ∧ (s.tellEvent e k n).entries = s.entries ∧
    (s.tellEvent e k n).outputs = s.outputs ∧ (s.tellEvent e k n).bus = s.bus ∧
    (s.tellEvent e k n).elements = s.elements ∧ (s.tellEvent e k n).claims = s.claims ∧
    (s.tellEvent e k n).sensors = s.sensors ∧ (s.tellEvent e k n).scores = s.scores ∧
    (s.tellEvent e k n).pending = s.pending := by
  simp [State.tellEvent]

@[simp] theorem State.creditEvents_keeps (s : State) (e : Fin 32) (k : Fin 2) (n : Nat) :
    (s.creditEvents e k n).tables = s.tables ∧ (s.creditEvents e k n).clocks = s.clocks ∧
    (s.creditEvents e k n).split = s.split ∧ (s.creditEvents e k n).lines = s.lines ∧
    (s.creditEvents e k n).slots = s.slots ∧ (s.creditEvents e k n).stations = s.stations ∧
    (s.creditEvents e k n).served = s.served ∧ (s.creditEvents e k n).console = s.console ∧
    (s.creditEvents e k n).radio = s.radio ∧ (s.creditEvents e k n).links = s.links ∧
    (s.creditEvents e k n).entries = s.entries ∧ (s.creditEvents e k n).outputs = s.outputs ∧
    (s.creditEvents e k n).bus = s.bus ∧ (s.creditEvents e k n).elements = s.elements ∧
    (s.creditEvents e k n).claims = s.claims ∧ (s.creditEvents e k n).sensors = s.sensors ∧
    (s.creditEvents e k n).trunk = s.trunk ∧ (s.creditEvents e k n).pending = s.pending := by
  simp only [State.creditEvents]
  and_intros <;> (repeat' split) <;> simp

@[simp] theorem State.countReading_keeps (s : State) (e : Fin 32) (k : Fin 2) (l : Level) (c : BitVec 4) (r : Bool) :
    (s.countReading e k l c r).tables = s.tables ∧ (s.countReading e k l c r).clocks = s.clocks ∧
    (s.countReading e k l c r).split = s.split ∧ (s.countReading e k l c r).lines = s.lines ∧
    (s.countReading e k l c r).slots = s.slots ∧ (s.countReading e k l c r).stations = s.stations ∧
    (s.countReading e k l c r).served = s.served ∧ (s.countReading e k l c r).console = s.console ∧
    (s.countReading e k l c r).radio = s.radio ∧ (s.countReading e k l c r).links = s.links ∧
    (s.countReading e k l c r).entries = s.entries ∧ (s.countReading e k l c r).outputs = s.outputs ∧
    (s.countReading e k l c r).bus = s.bus ∧ (s.countReading e k l c r).elements = s.elements ∧
    (s.countReading e k l c r).claims = s.claims ∧ (s.countReading e k l c r).pending = s.pending := by
  simp only [State.countReading]
  and_intros <;> (repeat' split) <;> simp

@[simp] theorem State.levelReading_keeps (s : State) (e : Fin 32) (k : Fin 2) (l : Level) :
    (s.levelReading e k l).tables = s.tables ∧ (s.levelReading e k l).clocks = s.clocks ∧
    (s.levelReading e k l).split = s.split ∧ (s.levelReading e k l).lines = s.lines ∧
    (s.levelReading e k l).slots = s.slots ∧ (s.levelReading e k l).stations = s.stations ∧
    (s.levelReading e k l).served = s.served ∧ (s.levelReading e k l).console = s.console ∧
    (s.levelReading e k l).radio = s.radio ∧ (s.levelReading e k l).links = s.links ∧
    (s.levelReading e k l).entries = s.entries ∧ (s.levelReading e k l).outputs = s.outputs ∧
    (s.levelReading e k l).bus = s.bus ∧ (s.levelReading e k l).elements = s.elements ∧
    (s.levelReading e k l).claims = s.claims ∧ (s.levelReading e k l).pending = s.pending := by
  simp only [State.levelReading]
  and_intros <;> (repeat' split) <;> simp

@[simp] theorem State.reading_keeps (s : State) (e : Fin 32) (k : Fin 2) (r : PollReading) :
    (s.reading e k r).tables = s.tables ∧ (s.reading e k r).clocks = s.clocks ∧ (s.reading e k r).split = s.split ∧
    (s.reading e k r).lines = s.lines ∧ (s.reading e k r).slots = s.slots ∧ (s.reading e k r).stations = s.stations ∧
    (s.reading e k r).served = s.served ∧ (s.reading e k r).console = s.console ∧ (s.reading e k r).radio = s.radio ∧
    (s.reading e k r).links = s.links ∧ (s.reading e k r).entries = s.entries ∧
    (s.reading e k r).outputs = s.outputs ∧ (s.reading e k r).bus = s.bus ∧ (s.reading e k r).elements = s.elements ∧
    (s.reading e k r).claims = s.claims ∧ (s.reading e k r).pending = s.pending := by
  simp only [State.reading]
  and_intros <;> (repeat' split) <;> simp

@[simp] theorem State.readings_keeps (s : State) (e : Fin 32) (r : PollReading) :
    (s.readings e r).tables = s.tables ∧ (s.readings e r).clocks = s.clocks ∧ (s.readings e r).split = s.split ∧
    (s.readings e r).lines = s.lines ∧ (s.readings e r).slots = s.slots ∧ (s.readings e r).stations = s.stations ∧
    (s.readings e r).served = s.served ∧ (s.readings e r).console = s.console ∧ (s.readings e r).radio = s.radio ∧
    (s.readings e r).links = s.links ∧ (s.readings e r).entries = s.entries ∧ (s.readings e r).outputs = s.outputs ∧
    (s.readings e r).bus = s.bus ∧ (s.readings e r).elements = s.elements ∧ (s.readings e r).claims = s.claims ∧
    (s.readings e r).pending = s.pending := by
  simp [State.readings]

/-! ## Match tables and match clocks -/

@[simp] theorem State.reportClock_keeps (s : State) (h : Half) :
    (s.reportClock h).tables = s.tables ∧ (s.reportClock h).clocks = s.clocks ∧ (s.reportClock h).split = s.split ∧
    (s.reportClock h).lines = s.lines ∧ (s.reportClock h).slots = s.slots ∧ (s.reportClock h).stations = s.stations ∧
    (s.reportClock h).served = s.served ∧ (s.reportClock h).console = s.console ∧ (s.reportClock h).radio = s.radio ∧
    (s.reportClock h).links = s.links ∧ (s.reportClock h).entries = s.entries ∧
    (s.reportClock h).outputs = s.outputs ∧ (s.reportClock h).bus = s.bus ∧ (s.reportClock h).elements = s.elements ∧
    (s.reportClock h).claims = s.claims ∧ (s.reportClock h).sensors = s.sensors ∧
    (s.reportClock h).scores = s.scores ∧ (s.reportClock h).pending = s.pending := by
  simp [State.reportClock]

@[simp] theorem State.dropLinks_keeps (s : State) (h : Half) :
    (s.dropLinks h).tables = s.tables ∧ (s.dropLinks h).clocks = s.clocks ∧ (s.dropLinks h).split = s.split ∧
    (s.dropLinks h).lines = s.lines ∧ (s.dropLinks h).slots = s.slots ∧ (s.dropLinks h).stations = s.stations ∧
    (s.dropLinks h).served = s.served ∧ (s.dropLinks h).console = s.console ∧ (s.dropLinks h).entries = s.entries ∧
    (s.dropLinks h).outputs = s.outputs ∧ (s.dropLinks h).bus = s.bus ∧ (s.dropLinks h).elements = s.elements ∧
    (s.dropLinks h).claims = s.claims ∧ (s.dropLinks h).sensors = s.sensors ∧ (s.dropLinks h).scores = s.scores ∧
    (s.dropLinks h).trunk = s.trunk ∧ (s.dropLinks h).pending = s.pending := by
  simp [State.dropLinks]

@[simp] theorem State.releaseStations_keeps (s : State) (h : Half) :
    (s.releaseStations h).tables = s.tables ∧ (s.releaseStations h).clocks = s.clocks ∧
    (s.releaseStations h).split = s.split ∧ (s.releaseStations h).lines = s.lines ∧
    (s.releaseStations h).slots = s.slots ∧ (s.releaseStations h).served = s.served ∧
    (s.releaseStations h).console = s.console ∧ (s.releaseStations h).radio = s.radio ∧
    (s.releaseStations h).links = s.links ∧ (s.releaseStations h).entries = s.entries ∧
    (s.releaseStations h).outputs = s.outputs ∧ (s.releaseStations h).bus = s.bus ∧
    (s.releaseStations h).elements = s.elements ∧ (s.releaseStations h).claims = s.claims ∧
    (s.releaseStations h).sensors = s.sensors ∧ (s.releaseStations h).scores = s.scores ∧
    (s.releaseStations h).trunk = s.trunk ∧ (s.releaseStations h).pending = s.pending := by
  simp [State.releaseStations]

@[simp] theorem State.arm_keeps (s : State) (h : Half) :
    (s.arm h).tables = s.tables ∧ (s.arm h).split = s.split ∧ (s.arm h).lines = s.lines ∧ (s.arm h).slots = s.slots ∧
    (s.arm h).stations = s.stations ∧ (s.arm h).served = s.served ∧ (s.arm h).console = s.console ∧
    (s.arm h).radio = s.radio ∧ (s.arm h).links = s.links ∧ (s.arm h).entries = s.entries ∧
    (s.arm h).outputs = s.outputs ∧ (s.arm h).bus = s.bus ∧ (s.arm h).elements = s.elements ∧
    (s.arm h).claims = s.claims ∧ (s.arm h).sensors = s.sensors ∧ (s.arm h).scores = s.scores ∧
    (s.arm h).trunk = s.trunk ∧ (s.arm h).pending = s.pending := by
  simp [State.arm]

@[simp] theorem State.turnover_keeps (s : State) (h : Half) :
    (s.turnover h).split = s.split ∧ (s.turnover h).lines = s.lines ∧ (s.turnover h).served = s.served ∧
    (s.turnover h).console = s.console ∧ (s.turnover h).entries = s.entries ∧ (s.turnover h).outputs = s.outputs ∧
    (s.turnover h).bus = s.bus ∧ (s.turnover h).elements = s.elements ∧ (s.turnover h).pending = s.pending := by
  simp only [State.turnover]
  and_intros <;> (repeat' split) <;> simp

@[simp] theorem State.autoTurnover_keeps (s : State) (h : Half) :
    (s.autoTurnover h).split = s.split ∧ (s.autoTurnover h).lines = s.lines ∧ (s.autoTurnover h).served = s.served ∧
    (s.autoTurnover h).console = s.console ∧ (s.autoTurnover h).entries = s.entries ∧
    (s.autoTurnover h).outputs = s.outputs ∧ (s.autoTurnover h).bus = s.bus ∧
    (s.autoTurnover h).elements = s.elements ∧ (s.autoTurnover h).pending = s.pending := by
  simp only [State.autoTurnover]
  and_intros <;> (repeat' split) <;> simp

@[simp] theorem State.endMatch_keeps (s : State) (h : Half) :
    (s.endMatch h).split = s.split ∧ (s.endMatch h).lines = s.lines ∧ (s.endMatch h).served = s.served ∧
    (s.endMatch h).console = s.console ∧ (s.endMatch h).entries = s.entries ∧ (s.endMatch h).outputs = s.outputs ∧
    (s.endMatch h).bus = s.bus ∧ (s.endMatch h).elements = s.elements ∧ (s.endMatch h).pending = s.pending := by
  simp [State.endMatch]

@[simp] theorem State.enterPhase_keeps (s : State) (h : Half) (j : Fin 8) :
    (s.enterPhase h j).tables = s.tables ∧ (s.enterPhase h j).split = s.split ∧ (s.enterPhase h j).lines = s.lines ∧
    (s.enterPhase h j).stations = s.stations ∧ (s.enterPhase h j).served = s.served ∧
    (s.enterPhase h j).radio = s.radio ∧ (s.enterPhase h j).links = s.links ∧ (s.enterPhase h j).entries = s.entries ∧
    (s.enterPhase h j).outputs = s.outputs ∧ (s.enterPhase h j).bus = s.bus ∧
    (s.enterPhase h j).elements = s.elements ∧ (s.enterPhase h j).sensors = s.sensors ∧
    (s.enterPhase h j).scores = s.scores ∧ (s.enterPhase h j).pending = s.pending := by
  simp [State.enterPhase]

@[simp] theorem State.endPhase_keeps (s : State) (h : Half) :
    (s.endPhase h).split = s.split ∧ (s.endPhase h).lines = s.lines ∧ (s.endPhase h).served = s.served ∧
    (s.endPhase h).entries = s.entries ∧ (s.endPhase h).outputs = s.outputs ∧ (s.endPhase h).bus = s.bus ∧
    (s.endPhase h).elements = s.elements ∧ (s.endPhase h).pending = s.pending := by
  simp only [State.endPhase]
  and_intros <;> (repeat' split) <;> simp

@[simp] theorem State.startMatch_keeps (s : State) (h : Half) :
    (s.startMatch h).split = s.split ∧ (s.startMatch h).lines = s.lines ∧ (s.startMatch h).served = s.served ∧
    (s.startMatch h).entries = s.entries ∧ (s.startMatch h).outputs = s.outputs ∧ (s.startMatch h).bus = s.bus ∧
    (s.startMatch h).elements = s.elements ∧ (s.startMatch h).pending = s.pending := by
  simp only [State.startMatch]
  and_intros <;> (repeat' split) <;> simp

@[simp] theorem State.changeHolds_keeps (s : State) (h : Half) (f : Clock → Clock) :
    (s.changeHolds h f).tables = s.tables ∧ (s.changeHolds h f).split = s.split ∧
    (s.changeHolds h f).lines = s.lines ∧ (s.changeHolds h f).slots = s.slots ∧
    (s.changeHolds h f).stations = s.stations ∧ (s.changeHolds h f).served = s.served ∧
    (s.changeHolds h f).console = s.console ∧ (s.changeHolds h f).radio = s.radio ∧
    (s.changeHolds h f).links = s.links ∧ (s.changeHolds h f).entries = s.entries ∧
    (s.changeHolds h f).outputs = s.outputs ∧ (s.changeHolds h f).bus = s.bus ∧
    (s.changeHolds h f).elements = s.elements ∧ (s.changeHolds h f).claims = s.claims ∧
    (s.changeHolds h f).sensors = s.sensors ∧ (s.changeHolds h f).scores = s.scores ∧
    (s.changeHolds h f).pending = s.pending := by
  simp only [State.changeHolds]
  and_intros <;> (repeat' split) <;> simp

@[simp] theorem State.deriveHold_keeps (s : State) (h : Half) :
    (s.deriveHold h).tables = s.tables ∧ (s.deriveHold h).split = s.split ∧ (s.deriveHold h).lines = s.lines ∧
    (s.deriveHold h).slots = s.slots ∧ (s.deriveHold h).stations = s.stations ∧ (s.deriveHold h).served = s.served ∧
    (s.deriveHold h).console = s.console ∧ (s.deriveHold h).radio = s.radio ∧ (s.deriveHold h).links = s.links ∧
    (s.deriveHold h).entries = s.entries ∧ (s.deriveHold h).outputs = s.outputs ∧ (s.deriveHold h).bus = s.bus ∧
    (s.deriveHold h).elements = s.elements ∧ (s.deriveHold h).claims = s.claims ∧
    (s.deriveHold h).sensors = s.sensors ∧ (s.deriveHold h).scores = s.scores ∧
    (s.deriveHold h).pending = s.pending := by
  simp [State.deriveHold]

@[simp] theorem State.deriveHolds_keeps (s : State) :
    (s.deriveHolds).tables = s.tables ∧ (s.deriveHolds).split = s.split ∧ (s.deriveHolds).lines = s.lines ∧
    (s.deriveHolds).slots = s.slots ∧ (s.deriveHolds).stations = s.stations ∧ (s.deriveHolds).served = s.served ∧
    (s.deriveHolds).console = s.console ∧ (s.deriveHolds).radio = s.radio ∧ (s.deriveHolds).links = s.links ∧
    (s.deriveHolds).entries = s.entries ∧ (s.deriveHolds).outputs = s.outputs ∧ (s.deriveHolds).bus = s.bus ∧
    (s.deriveHolds).elements = s.elements ∧ (s.deriveHolds).claims = s.claims ∧ (s.deriveHolds).sensors = s.sensors ∧
    (s.deriveHolds).scores = s.scores ∧ (s.deriveHolds).pending = s.pending := by
  simp [State.deriveHolds]

@[simp] theorem State.latchStop_keeps (s : State) (h : Half) (src : StopSource) :
    (s.latchStop h src).tables = s.tables ∧ (s.latchStop h src).split = s.split ∧
    (s.latchStop h src).lines = s.lines ∧ (s.latchStop h src).slots = s.slots ∧
    (s.latchStop h src).stations = s.stations ∧ (s.latchStop h src).served = s.served ∧
    (s.latchStop h src).radio = s.radio ∧ (s.latchStop h src).links = s.links ∧
    (s.latchStop h src).entries = s.entries ∧ (s.latchStop h src).outputs = s.outputs ∧
    (s.latchStop h src).bus = s.bus ∧ (s.latchStop h src).elements = s.elements ∧
    (s.latchStop h src).sensors = s.sensors ∧ (s.latchStop h src).scores = s.scores ∧
    (s.latchStop h src).pending = s.pending := by
  simp only [State.latchStop]
  and_intros <;> (repeat' split) <;> simp

@[simp] theorem State.clearMatch_keeps (s : State) (h : Half) :
    (s.clearMatch h).split = s.split ∧ (s.clearMatch h).lines = s.lines ∧ (s.clearMatch h).served = s.served ∧
    (s.clearMatch h).console = s.console ∧ (s.clearMatch h).entries = s.entries ∧
    (s.clearMatch h).outputs = s.outputs ∧ (s.clearMatch h).bus = s.bus ∧ (s.clearMatch h).elements = s.elements ∧
    (s.clearMatch h).pending = s.pending := by
  simp only [State.clearMatch]
  and_intros <;> (repeat' split) <;> simp

@[simp] theorem State.tenthEvent_keeps (s : State) (h : Half) :
    (tenthEvent h s).split = s.split ∧ (tenthEvent h s).lines = s.lines ∧ (tenthEvent h s).served = s.served ∧
    (tenthEvent h s).entries = s.entries ∧ (tenthEvent h s).outputs = s.outputs ∧ (tenthEvent h s).bus = s.bus ∧
    (tenthEvent h s).elements = s.elements ∧ (tenthEvent h s).pending = s.pending := by
  simp only [tenthEvent]
  and_intros <;> (repeat' split) <;> simp

@[simp] theorem State.phaseExpiry_keeps (s : State) (h : Half) :
    (phaseExpiry h s).split = s.split ∧ (phaseExpiry h s).lines = s.lines ∧ (phaseExpiry h s).served = s.served ∧
    (phaseExpiry h s).entries = s.entries ∧ (phaseExpiry h s).outputs = s.outputs ∧ (phaseExpiry h s).bus = s.bus ∧
    (phaseExpiry h s).elements = s.elements ∧ (phaseExpiry h s).pending = s.pending := by
  simp only [phaseExpiry]
  and_intros <;> (repeat' split) <;> simp

@[simp] theorem State.carryStop_keeps (s : State) (h : Half) (v : Bool) :
    (s.carryStop h v).tables = s.tables ∧ (s.carryStop h v).split = s.split ∧ (s.carryStop h v).lines = s.lines ∧
    (s.carryStop h v).slots = s.slots ∧ (s.carryStop h v).stations = s.stations ∧
    (s.carryStop h v).served = s.served ∧ (s.carryStop h v).console = s.console ∧ (s.carryStop h v).radio = s.radio ∧
    (s.carryStop h v).links = s.links ∧ (s.carryStop h v).entries = s.entries ∧
    (s.carryStop h v).outputs = s.outputs ∧ (s.carryStop h v).bus = s.bus ∧ (s.carryStop h v).elements = s.elements ∧
    (s.carryStop h v).claims = s.claims ∧ (s.carryStop h v).sensors = s.sensors ∧
    (s.carryStop h v).scores = s.scores ∧ (s.carryStop h v).pending = s.pending := by
  simp only [State.carryStop]
  and_intros <;> (repeat' split) <;> simp

@[simp] theorem State.latchFrom_keeps (s : State) (h : Half) (n : Fin 4) :
    (s.latchFrom h n).tables = s.tables ∧ (s.latchFrom h n).split = s.split ∧ (s.latchFrom h n).lines = s.lines ∧
    (s.latchFrom h n).slots = s.slots ∧ (s.latchFrom h n).stations = s.stations ∧
    (s.latchFrom h n).served = s.served ∧ (s.latchFrom h n).radio = s.radio ∧ (s.latchFrom h n).links = s.links ∧
    (s.latchFrom h n).entries = s.entries ∧ (s.latchFrom h n).outputs = s.outputs ∧ (s.latchFrom h n).bus = s.bus ∧
    (s.latchFrom h n).elements = s.elements ∧ (s.latchFrom h n).sensors = s.sensors ∧
    (s.latchFrom h n).scores = s.scores ∧ (s.latchFrom h n).pending = s.pending := by
  simp only [State.latchFrom]
  and_intros <;> (repeat' split) <;> simp

@[simp] theorem State.startEdge_keeps (s : State) (n : Fin 4) (h : Half) :
    (s.startEdge n h).split = s.split ∧ (s.startEdge n h).served = s.served ∧ (s.startEdge n h).entries = s.entries ∧
    (s.startEdge n h).outputs = s.outputs ∧ (s.startEdge n h).bus = s.bus ∧ (s.startEdge n h).elements = s.elements ∧
    (s.startEdge n h).pending = s.pending := by
  simp only [State.startEdge]
  and_intros <;> (repeat' split) <;> simp

/-! ## Radio scheduler -/

@[simp] theorem State.lookReady_keeps (s : State) :
    (s.lookReady).tables = s.tables ∧ (s.lookReady).clocks = s.clocks ∧ (s.lookReady).split = s.split ∧
    (s.lookReady).lines = s.lines ∧ (s.lookReady).slots = s.slots ∧ (s.lookReady).stations = s.stations ∧
    (s.lookReady).served = s.served ∧ (s.lookReady).console = s.console ∧ (s.lookReady).links = s.links ∧
    (s.lookReady).entries = s.entries ∧ (s.lookReady).outputs = s.outputs ∧ (s.lookReady).bus = s.bus ∧
    (s.lookReady).elements = s.elements ∧ (s.lookReady).claims = s.claims ∧ (s.lookReady).sensors = s.sensors ∧
    (s.lookReady).scores = s.scores ∧ (s.lookReady).trunk = s.trunk ∧ (s.lookReady).pending = s.pending := by
  simp [State.lookReady]

@[simp] theorem State.sendBeacon_keeps (s : State) :
    (s.sendBeacon).tables = s.tables ∧ (s.sendBeacon).clocks = s.clocks ∧ (s.sendBeacon).split = s.split ∧
    (s.sendBeacon).lines = s.lines ∧ (s.sendBeacon).slots = s.slots ∧ (s.sendBeacon).stations = s.stations ∧
    (s.sendBeacon).served = s.served ∧ (s.sendBeacon).console = s.console ∧ (s.sendBeacon).links = s.links ∧
    (s.sendBeacon).entries = s.entries ∧ (s.sendBeacon).outputs = s.outputs ∧ (s.sendBeacon).bus = s.bus ∧
    (s.sendBeacon).elements = s.elements ∧ (s.sendBeacon).claims = s.claims ∧ (s.sendBeacon).sensors = s.sensors ∧
    (s.sendBeacon).scores = s.scores ∧ (s.sendBeacon).trunk = s.trunk ∧ (s.sendBeacon).pending = s.pending := by
  simp [State.sendBeacon]

@[simp] theorem State.beginCycle_keeps (s : State) (number : Byte) :
    (s.beginCycle number).tables = s.tables ∧ (s.beginCycle number).clocks = s.clocks ∧
    (s.beginCycle number).split = s.split ∧ (s.beginCycle number).lines = s.lines ∧
    (s.beginCycle number).slots = s.slots ∧ (s.beginCycle number).stations = s.stations ∧
    (s.beginCycle number).served = s.served ∧ (s.beginCycle number).console = s.console ∧
    (s.beginCycle number).links = s.links ∧ (s.beginCycle number).entries = s.entries ∧
    (s.beginCycle number).outputs = s.outputs ∧ (s.beginCycle number).bus = s.bus ∧
    (s.beginCycle number).elements = s.elements ∧ (s.beginCycle number).claims = s.claims ∧
    (s.beginCycle number).sensors = s.sensors ∧ (s.beginCycle number).scores = s.scores ∧
    (s.beginCycle number).trunk = s.trunk ∧ (s.beginCycle number).pending = s.pending := by
  simp only [State.beginCycle]
  and_intros <;> (repeat' split) <;> simp

@[simp] theorem State.nextCycle_keeps (s : State) :
    (s.nextCycle).tables = s.tables ∧ (s.nextCycle).clocks = s.clocks ∧ (s.nextCycle).split = s.split ∧
    (s.nextCycle).lines = s.lines ∧ (s.nextCycle).slots = s.slots ∧ (s.nextCycle).stations = s.stations ∧
    (s.nextCycle).served = s.served ∧ (s.nextCycle).console = s.console ∧ (s.nextCycle).links = s.links ∧
    (s.nextCycle).entries = s.entries ∧ (s.nextCycle).outputs = s.outputs ∧ (s.nextCycle).bus = s.bus ∧
    (s.nextCycle).elements = s.elements ∧ (s.nextCycle).claims = s.claims ∧ (s.nextCycle).sensors = s.sensors ∧
    (s.nextCycle).scores = s.scores ∧ (s.nextCycle).trunk = s.trunk ∧ (s.nextCycle).pending = s.pending := by
  simp [State.nextCycle]

@[simp] theorem State.dropBound_keeps (s : State) :
    (s.dropBound).tables = s.tables ∧ (s.dropBound).clocks = s.clocks ∧ (s.dropBound).split = s.split ∧
    (s.dropBound).lines = s.lines ∧ (s.dropBound).stations = s.stations ∧ (s.dropBound).served = s.served ∧
    (s.dropBound).console = s.console ∧ (s.dropBound).radio = s.radio ∧ (s.dropBound).entries = s.entries ∧
    (s.dropBound).outputs = s.outputs ∧ (s.dropBound).bus = s.bus ∧ (s.dropBound).elements = s.elements ∧
    (s.dropBound).claims = s.claims ∧ (s.dropBound).sensors = s.sensors ∧ (s.dropBound).scores = s.scores ∧
    (s.dropBound).trunk = s.trunk ∧ (s.dropBound).pending = s.pending := by
  simp [State.dropBound]

@[simp] theorem State.sendDownlink_keeps (s : State) (i : Fin 24) :
    (s.sendDownlink i).tables = s.tables ∧ (s.sendDownlink i).clocks = s.clocks ∧ (s.sendDownlink i).split = s.split ∧
    (s.sendDownlink i).lines = s.lines ∧ (s.sendDownlink i).stations = s.stations ∧
    (s.sendDownlink i).served = s.served ∧ (s.sendDownlink i).console = s.console ∧
    (s.sendDownlink i).links = s.links ∧ (s.sendDownlink i).entries = s.entries ∧
    (s.sendDownlink i).outputs = s.outputs ∧ (s.sendDownlink i).bus = s.bus ∧
    (s.sendDownlink i).elements = s.elements ∧ (s.sendDownlink i).claims = s.claims ∧
    (s.sendDownlink i).sensors = s.sensors ∧ (s.sendDownlink i).scores = s.scores ∧
    (s.sendDownlink i).trunk = s.trunk ∧ (s.sendDownlink i).pending = s.pending := by
  simp [State.sendDownlink]

@[simp] theorem State.openWindow_keeps (s : State) :
    (s.openWindow).tables = s.tables ∧ (s.openWindow).clocks = s.clocks ∧ (s.openWindow).split = s.split ∧
    (s.openWindow).lines = s.lines ∧ (s.openWindow).stations = s.stations ∧ (s.openWindow).served = s.served ∧
    (s.openWindow).console = s.console ∧ (s.openWindow).links = s.links ∧ (s.openWindow).entries = s.entries ∧
    (s.openWindow).outputs = s.outputs ∧ (s.openWindow).bus = s.bus ∧ (s.openWindow).elements = s.elements ∧
    (s.openWindow).claims = s.claims ∧ (s.openWindow).sensors = s.sensors ∧ (s.openWindow).scores = s.scores ∧
    (s.openWindow).trunk = s.trunk ∧ (s.openWindow).pending = s.pending := by
  simp only [State.openWindow]
  and_intros <;> (repeat' split) <;> simp

@[simp] theorem State.closeWindow_keeps (s : State) :
    (s.closeWindow).tables = s.tables ∧ (s.closeWindow).clocks = s.clocks ∧ (s.closeWindow).split = s.split ∧
    (s.closeWindow).lines = s.lines ∧ (s.closeWindow).slots = s.slots ∧ (s.closeWindow).stations = s.stations ∧
    (s.closeWindow).served = s.served ∧ (s.closeWindow).console = s.console ∧ (s.closeWindow).entries = s.entries ∧
    (s.closeWindow).outputs = s.outputs ∧ (s.closeWindow).bus = s.bus ∧ (s.closeWindow).elements = s.elements ∧
    (s.closeWindow).claims = s.claims ∧ (s.closeWindow).sensors = s.sensors ∧ (s.closeWindow).scores = s.scores ∧
    (s.closeWindow).trunk = s.trunk ∧ (s.closeWindow).pending = s.pending := by
  simp only [State.closeWindow]
  and_intros <;> (repeat' split) <;> simp

@[simp] theorem State.telemetry_keeps (s : State) (i : Fin 24) (v : BitVec 16) (st : Byte) (p : List Byte) :
    (s.telemetry i v st p).tables = s.tables ∧ (s.telemetry i v st p).clocks = s.clocks ∧
    (s.telemetry i v st p).split = s.split ∧ (s.telemetry i v st p).lines = s.lines ∧
    (s.telemetry i v st p).slots = s.slots ∧ (s.telemetry i v st p).stations = s.stations ∧
    (s.telemetry i v st p).served = s.served ∧ (s.telemetry i v st p).radio = s.radio ∧
    (s.telemetry i v st p).links = s.links ∧ (s.telemetry i v st p).entries = s.entries ∧
    (s.telemetry i v st p).outputs = s.outputs ∧ (s.telemetry i v st p).bus = s.bus ∧
    (s.telemetry i v st p).elements = s.elements ∧ (s.telemetry i v st p).claims = s.claims ∧
    (s.telemetry i v st p).sensors = s.sensors ∧ (s.telemetry i v st p).scores = s.scores ∧
    (s.telemetry i v st p).trunk = s.trunk ∧ (s.telemetry i v st p).pending = s.pending := by
  simp only [State.telemetry]
  and_intros <;> (repeat' split) <;> simp

@[simp] theorem State.countForeign_keeps (s : State) :
    (s.countForeign).tables = s.tables ∧ (s.countForeign).clocks = s.clocks ∧ (s.countForeign).split = s.split ∧
    (s.countForeign).lines = s.lines ∧ (s.countForeign).slots = s.slots ∧ (s.countForeign).stations = s.stations ∧
    (s.countForeign).served = s.served ∧ (s.countForeign).console = s.console ∧ (s.countForeign).links = s.links ∧
    (s.countForeign).entries = s.entries ∧ (s.countForeign).outputs = s.outputs ∧ (s.countForeign).bus = s.bus ∧
    (s.countForeign).elements = s.elements ∧ (s.countForeign).claims = s.claims ∧
    (s.countForeign).sensors = s.sensors ∧ (s.countForeign).scores = s.scores ∧ (s.countForeign).trunk = s.trunk ∧
    (s.countForeign).pending = s.pending := by
  simp [State.countForeign]

@[simp] theorem State.takeReply_keeps (s : State) (i : Fin 24) (v : BitVec 16) (st : Byte) (p : List Byte) :
    (s.takeReply i v st p).tables = s.tables ∧ (s.takeReply i v st p).clocks = s.clocks ∧
    (s.takeReply i v st p).split = s.split ∧ (s.takeReply i v st p).lines = s.lines ∧
    (s.takeReply i v st p).slots = s.slots ∧ (s.takeReply i v st p).stations = s.stations ∧
    (s.takeReply i v st p).served = s.served ∧ (s.takeReply i v st p).radio = s.radio ∧
    (s.takeReply i v st p).entries = s.entries ∧ (s.takeReply i v st p).outputs = s.outputs ∧
    (s.takeReply i v st p).bus = s.bus ∧ (s.takeReply i v st p).elements = s.elements ∧
    (s.takeReply i v st p).claims = s.claims ∧ (s.takeReply i v st p).sensors = s.sensors ∧
    (s.takeReply i v st p).scores = s.scores ∧ (s.takeReply i v st p).pending = s.pending := by
  simp only [State.takeReply]
  and_intros <;> (repeat' split) <;> simp

@[simp] theorem State.placeAnswer_keeps (s : State) (a : JoinAnswer) :
    (s.placeAnswer a).tables = s.tables ∧ (s.placeAnswer a).clocks = s.clocks ∧ (s.placeAnswer a).split = s.split ∧
    (s.placeAnswer a).lines = s.lines ∧ (s.placeAnswer a).slots = s.slots ∧ (s.placeAnswer a).stations = s.stations ∧
    (s.placeAnswer a).served = s.served ∧ (s.placeAnswer a).console = s.console ∧ (s.placeAnswer a).links = s.links ∧
    (s.placeAnswer a).entries = s.entries ∧ (s.placeAnswer a).outputs = s.outputs ∧ (s.placeAnswer a).bus = s.bus ∧
    (s.placeAnswer a).elements = s.elements ∧ (s.placeAnswer a).claims = s.claims ∧
    (s.placeAnswer a).sensors = s.sensors ∧ (s.placeAnswer a).scores = s.scores ∧ (s.placeAnswer a).trunk = s.trunk ∧
    (s.placeAnswer a).pending = s.pending := by
  simp only [State.placeAnswer]
  and_intros <;> (repeat' split) <;> simp

@[simp] theorem State.bind_keeps (s : State) (i : Fin 24) (c : LinkCause) (kit : BitVec 32) (k : Byte) :
    (s.bind i c kit k).tables = s.tables ∧ (s.bind i c kit k).clocks = s.clocks ∧ (s.bind i c kit k).split = s.split ∧
    (s.bind i c kit k).lines = s.lines ∧ (s.bind i c kit k).stations = s.stations ∧
    (s.bind i c kit k).served = s.served ∧ (s.bind i c kit k).console = s.console ∧
    (s.bind i c kit k).entries = s.entries ∧ (s.bind i c kit k).outputs = s.outputs ∧ (s.bind i c kit k).bus = s.bus ∧
    (s.bind i c kit k).elements = s.elements ∧ (s.bind i c kit k).claims = s.claims ∧
    (s.bind i c kit k).sensors = s.sensors ∧ (s.bind i c kit k).scores = s.scores ∧
    (s.bind i c kit k).pending = s.pending := by
  simp [State.bind]

@[simp] theorem State.unknownJoin_keeps (s : State) (kit : BitVec 32) (k : Byte) :
    (s.unknownJoin kit k).tables = s.tables ∧ (s.unknownJoin kit k).clocks = s.clocks ∧
    (s.unknownJoin kit k).split = s.split ∧ (s.unknownJoin kit k).lines = s.lines ∧
    (s.unknownJoin kit k).slots = s.slots ∧ (s.unknownJoin kit k).stations = s.stations ∧
    (s.unknownJoin kit k).served = s.served ∧ (s.unknownJoin kit k).console = s.console ∧
    (s.unknownJoin kit k).links = s.links ∧ (s.unknownJoin kit k).entries = s.entries ∧
    (s.unknownJoin kit k).outputs = s.outputs ∧ (s.unknownJoin kit k).bus = s.bus ∧
    (s.unknownJoin kit k).elements = s.elements ∧ (s.unknownJoin kit k).claims = s.claims ∧
    (s.unknownJoin kit k).sensors = s.sensors ∧ (s.unknownJoin kit k).scores = s.scores ∧
    (s.unknownJoin kit k).pending = s.pending := by
  simp only [State.unknownJoin]
  and_intros <;> (repeat' split) <;> simp

@[simp] theorem State.takeJoin_keeps (s : State) (arena : Byte) (kit : BitVec 32) (k : Byte) :
    (s.takeJoin arena kit k).tables = s.tables ∧ (s.takeJoin arena kit k).clocks = s.clocks ∧
    (s.takeJoin arena kit k).split = s.split ∧ (s.takeJoin arena kit k).lines = s.lines ∧
    (s.takeJoin arena kit k).stations = s.stations ∧ (s.takeJoin arena kit k).served = s.served ∧
    (s.takeJoin arena kit k).console = s.console ∧ (s.takeJoin arena kit k).entries = s.entries ∧
    (s.takeJoin arena kit k).outputs = s.outputs ∧ (s.takeJoin arena kit k).bus = s.bus ∧
    (s.takeJoin arena kit k).elements = s.elements ∧ (s.takeJoin arena kit k).claims = s.claims ∧
    (s.takeJoin arena kit k).sensors = s.sensors ∧ (s.takeJoin arena kit k).scores = s.scores ∧
    (s.takeJoin arena kit k).pending = s.pending := by
  simp only [State.takeJoin]
  and_intros <;> (repeat' split) <;> simp

@[simp] theorem State.livenessExpiry_keeps (s : State) (i : Fin 24) :
    (livenessExpiry i s).tables = s.tables ∧ (livenessExpiry i s).clocks = s.clocks ∧
    (livenessExpiry i s).split = s.split ∧ (livenessExpiry i s).lines = s.lines ∧
    (livenessExpiry i s).stations = s.stations ∧ (livenessExpiry i s).served = s.served ∧
    (livenessExpiry i s).console = s.console ∧ (livenessExpiry i s).entries = s.entries ∧
    (livenessExpiry i s).outputs = s.outputs ∧ (livenessExpiry i s).bus = s.bus ∧
    (livenessExpiry i s).elements = s.elements ∧ (livenessExpiry i s).claims = s.claims ∧
    (livenessExpiry i s).sensors = s.sensors ∧ (livenessExpiry i s).scores = s.scores ∧
    (livenessExpiry i s).pending = s.pending := by
  simp only [livenessExpiry]
  and_intros <;> (repeat' split) <;> simp

@[simp] theorem State.replyReceived_keeps (s : State) (arena slot : Byte) (kit : BitVec 32) (v : BitVec 16) (st : Byte) (p : List Byte) :
    (replyReceived arena slot kit v st p s).tables = s.tables ∧
    (replyReceived arena slot kit v st p s).clocks = s.clocks ∧
    (replyReceived arena slot kit v st p s).split = s.split ∧
    (replyReceived arena slot kit v st p s).lines = s.lines ∧
    (replyReceived arena slot kit v st p s).slots = s.slots ∧
    (replyReceived arena slot kit v st p s).stations = s.stations ∧
    (replyReceived arena slot kit v st p s).served = s.served ∧
    (replyReceived arena slot kit v st p s).entries = s.entries ∧
    (replyReceived arena slot kit v st p s).outputs = s.outputs ∧
    (replyReceived arena slot kit v st p s).bus = s.bus ∧
    (replyReceived arena slot kit v st p s).elements = s.elements ∧
    (replyReceived arena slot kit v st p s).claims = s.claims ∧
    (replyReceived arena slot kit v st p s).sensors = s.sensors ∧
    (replyReceived arena slot kit v st p s).scores = s.scores ∧
    (replyReceived arena slot kit v st p s).pending = s.pending := by
  simp only [replyReceived]
  and_intros <;> (repeat' split) <;> simp

@[simp] theorem State.joinReceived_keeps (s : State) (arena : Byte) (kit : BitVec 32) (k : Byte) :
    (joinReceived arena kit k s).tables = s.tables ∧ (joinReceived arena kit k s).clocks = s.clocks ∧
    (joinReceived arena kit k s).split = s.split ∧ (joinReceived arena kit k s).lines = s.lines ∧
    (joinReceived arena kit k s).stations = s.stations ∧ (joinReceived arena kit k s).served = s.served ∧
    (joinReceived arena kit k s).console = s.console ∧ (joinReceived arena kit k s).entries = s.entries ∧
    (joinReceived arena kit k s).outputs = s.outputs ∧ (joinReceived arena kit k s).bus = s.bus ∧
    (joinReceived arena kit k s).elements = s.elements ∧ (joinReceived arena kit k s).claims = s.claims ∧
    (joinReceived arena kit k s).sensors = s.sensors ∧ (joinReceived arena kit k s).scores = s.scores ∧
    (joinReceived arena kit k s).pending = s.pending := by
  simp only [joinReceived]
  and_intros <;> (repeat' split) <;> simp

/-! ## Element table and element bus -/

@[simp] theorem State.storeElement_keeps (s : State) (e : Fin 32) (x : ElementEntry) :
    (s.storeElement e x).tables = s.tables ∧ (s.storeElement e x).clocks = s.clocks ∧
    (s.storeElement e x).split = s.split ∧ (s.storeElement e x).lines = s.lines ∧
    (s.storeElement e x).slots = s.slots ∧ (s.storeElement e x).stations = s.stations ∧
    (s.storeElement e x).served = s.served ∧ (s.storeElement e x).console = s.console ∧
    (s.storeElement e x).radio = s.radio ∧ (s.storeElement e x).links = s.links ∧
    (s.storeElement e x).scores = s.scores ∧ (s.storeElement e x).trunk = s.trunk ∧
    (s.storeElement e x).pending = s.pending := by
  simp [State.storeElement]

@[simp] theorem State.startSweep_keeps (s : State) :
    (s.startSweep).tables = s.tables ∧ (s.startSweep).clocks = s.clocks ∧ (s.startSweep).split = s.split ∧
    (s.startSweep).lines = s.lines ∧ (s.startSweep).slots = s.slots ∧ (s.startSweep).stations = s.stations ∧
    (s.startSweep).served = s.served ∧ (s.startSweep).console = s.console ∧ (s.startSweep).radio = s.radio ∧
    (s.startSweep).links = s.links ∧ (s.startSweep).entries = s.entries ∧ (s.startSweep).outputs = s.outputs ∧
    (s.startSweep).elements = s.elements ∧ (s.startSweep).claims = s.claims ∧ (s.startSweep).sensors = s.sensors ∧
    (s.startSweep).scores = s.scores ∧ (s.startSweep).trunk = s.trunk ∧ (s.startSweep).pending = s.pending := by
  simp [State.startSweep]

@[simp] theorem State.endSweep_keeps (s : State) :
    (s.endSweep).tables = s.tables ∧ (s.endSweep).clocks = s.clocks ∧ (s.endSweep).split = s.split ∧
    (s.endSweep).lines = s.lines ∧ (s.endSweep).slots = s.slots ∧ (s.endSweep).stations = s.stations ∧
    (s.endSweep).served = s.served ∧ (s.endSweep).console = s.console ∧ (s.endSweep).radio = s.radio ∧
    (s.endSweep).links = s.links ∧ (s.endSweep).entries = s.entries ∧ (s.endSweep).outputs = s.outputs ∧
    (s.endSweep).elements = s.elements ∧ (s.endSweep).claims = s.claims ∧ (s.endSweep).sensors = s.sensors ∧
    (s.endSweep).scores = s.scores ∧ (s.endSweep).trunk = s.trunk ∧ (s.endSweep).pending = s.pending := by
  simp only [State.endSweep]
  and_intros <;> (repeat' split) <;> simp

@[simp] theorem State.checkSweep_keeps (s : State) :
    (s.checkSweep).tables = s.tables ∧ (s.checkSweep).clocks = s.clocks ∧ (s.checkSweep).split = s.split ∧
    (s.checkSweep).lines = s.lines ∧ (s.checkSweep).slots = s.slots ∧ (s.checkSweep).stations = s.stations ∧
    (s.checkSweep).served = s.served ∧ (s.checkSweep).console = s.console ∧ (s.checkSweep).radio = s.radio ∧
    (s.checkSweep).links = s.links ∧ (s.checkSweep).entries = s.entries ∧ (s.checkSweep).outputs = s.outputs ∧
    (s.checkSweep).elements = s.elements ∧ (s.checkSweep).claims = s.claims ∧ (s.checkSweep).sensors = s.sensors ∧
    (s.checkSweep).scores = s.scores ∧ (s.checkSweep).trunk = s.trunk ∧ (s.checkSweep).pending = s.pending := by
  simp only [State.checkSweep]
  and_intros <;> (repeat' split) <;> simp

@[simp] theorem State.applyMode_keeps (s : State) :
    (s.applyMode).tables = s.tables ∧ (s.applyMode).clocks = s.clocks ∧ (s.applyMode).split = s.split ∧
    (s.applyMode).lines = s.lines ∧ (s.applyMode).slots = s.slots ∧ (s.applyMode).stations = s.stations ∧
    (s.applyMode).served = s.served ∧ (s.applyMode).console = s.console ∧ (s.applyMode).radio = s.radio ∧
    (s.applyMode).links = s.links ∧ (s.applyMode).entries = s.entries ∧ (s.applyMode).outputs = s.outputs ∧
    (s.applyMode).elements = s.elements ∧ (s.applyMode).claims = s.claims ∧ (s.applyMode).sensors = s.sensors ∧
    (s.applyMode).scores = s.scores ∧ (s.applyMode).pending = s.pending := by
  simp only [State.applyMode]
  and_intros <;> (repeat' split) <;> simp

@[simp] theorem State.beginPoll_keeps (s : State) (e : Fin 32) :
    (s.beginPoll e).tables = s.tables ∧ (s.beginPoll e).clocks = s.clocks ∧ (s.beginPoll e).split = s.split ∧
    (s.beginPoll e).lines = s.lines ∧ (s.beginPoll e).slots = s.slots ∧ (s.beginPoll e).stations = s.stations ∧
    (s.beginPoll e).served = s.served ∧ (s.beginPoll e).console = s.console ∧ (s.beginPoll e).radio = s.radio ∧
    (s.beginPoll e).links = s.links ∧ (s.beginPoll e).entries = s.entries ∧ (s.beginPoll e).outputs = s.outputs ∧
    (s.beginPoll e).claims = s.claims ∧ (s.beginPoll e).sensors = s.sensors ∧ (s.beginPoll e).scores = s.scores ∧
    (s.beginPoll e).trunk = s.trunk ∧ (s.beginPoll e).pending = s.pending := by
  simp [State.beginPoll]

@[simp] theorem State.goodAnswer_keeps (s : State) (e : Fin 32) (r : PollReading) :
    (s.goodAnswer e r).tables = s.tables ∧ (s.goodAnswer e r).clocks = s.clocks ∧ (s.goodAnswer e r).split = s.split ∧
    (s.goodAnswer e r).lines = s.lines ∧ (s.goodAnswer e r).slots = s.slots ∧
    (s.goodAnswer e r).stations = s.stations ∧ (s.goodAnswer e r).served = s.served ∧
    (s.goodAnswer e r).console = s.console ∧ (s.goodAnswer e r).radio = s.radio ∧ (s.goodAnswer e r).links = s.links ∧
    (s.goodAnswer e r).entries = s.entries ∧ (s.goodAnswer e r).outputs = s.outputs ∧ (s.goodAnswer e r).bus = s.bus ∧
    (s.goodAnswer e r).claims = s.claims ∧ (s.goodAnswer e r).pending = s.pending := by
  simp only [State.goodAnswer]
  and_intros <;> (repeat' split) <;> simp

@[simp] theorem State.missedPoll_keeps (s : State) (e : Fin 32) :
    (s.missedPoll e).tables = s.tables ∧ (s.missedPoll e).clocks = s.clocks ∧ (s.missedPoll e).split = s.split ∧
    (s.missedPoll e).lines = s.lines ∧ (s.missedPoll e).slots = s.slots ∧ (s.missedPoll e).stations = s.stations ∧
    (s.missedPoll e).served = s.served ∧ (s.missedPoll e).radio = s.radio ∧ (s.missedPoll e).links = s.links ∧
    (s.missedPoll e).entries = s.entries ∧ (s.missedPoll e).outputs = s.outputs ∧ (s.missedPoll e).bus = s.bus ∧
    (s.missedPoll e).sensors = s.sensors ∧ (s.missedPoll e).scores = s.scores ∧
    (s.missedPoll e).pending = s.pending := by
  simp only [State.missedPoll]
  and_intros <;> (repeat' split) <;> simp

@[simp] theorem State.badAnswer_keeps (s : State) :
    (s.badAnswer).tables = s.tables ∧ (s.badAnswer).clocks = s.clocks ∧ (s.badAnswer).split = s.split ∧
    (s.badAnswer).lines = s.lines ∧ (s.badAnswer).slots = s.slots ∧ (s.badAnswer).stations = s.stations ∧
    (s.badAnswer).served = s.served ∧ (s.badAnswer).console = s.console ∧ (s.badAnswer).radio = s.radio ∧
    (s.badAnswer).links = s.links ∧ (s.badAnswer).entries = s.entries ∧ (s.badAnswer).outputs = s.outputs ∧
    (s.badAnswer).elements = s.elements ∧ (s.badAnswer).claims = s.claims ∧ (s.badAnswer).sensors = s.sensors ∧
    (s.badAnswer).scores = s.scores ∧ (s.badAnswer).trunk = s.trunk ∧ (s.badAnswer).pending = s.pending := by
  simp [State.badAnswer]

@[simp] theorem State.judgeAnswer_keeps (s : State) (e : Fin 32) (a : Option BusFrame) :
    (s.judgeAnswer e a).tables = s.tables ∧ (s.judgeAnswer e a).clocks = s.clocks ∧
    (s.judgeAnswer e a).split = s.split ∧ (s.judgeAnswer e a).lines = s.lines ∧ (s.judgeAnswer e a).slots = s.slots ∧
    (s.judgeAnswer e a).stations = s.stations ∧ (s.judgeAnswer e a).served = s.served ∧
    (s.judgeAnswer e a).radio = s.radio ∧ (s.judgeAnswer e a).links = s.links ∧
    (s.judgeAnswer e a).entries = s.entries ∧ (s.judgeAnswer e a).outputs = s.outputs ∧
    (s.judgeAnswer e a).pending = s.pending := by
  simp only [State.judgeAnswer]
  and_intros <;> (repeat' split) <;> simp

@[simp] theorem State.freeBus_keeps (s : State) :
    (s.freeBus).tables = s.tables ∧ (s.freeBus).clocks = s.clocks ∧ (s.freeBus).split = s.split ∧
    (s.freeBus).lines = s.lines ∧ (s.freeBus).slots = s.slots ∧ (s.freeBus).stations = s.stations ∧
    (s.freeBus).served = s.served ∧ (s.freeBus).console = s.console ∧ (s.freeBus).radio = s.radio ∧
    (s.freeBus).links = s.links ∧ (s.freeBus).entries = s.entries ∧ (s.freeBus).outputs = s.outputs ∧
    (s.freeBus).elements = s.elements ∧ (s.freeBus).claims = s.claims ∧ (s.freeBus).sensors = s.sensors ∧
    (s.freeBus).scores = s.scores ∧ (s.freeBus).pending = s.pending := by
  simp [State.freeBus]

@[simp] theorem State.judgePassEnd_keeps (s : State) (tag address expected : Byte) (a : Option BusFrame) :
    (s.judgePassEnd tag address expected a).tables = s.tables ∧
    (s.judgePassEnd tag address expected a).clocks = s.clocks ∧
    (s.judgePassEnd tag address expected a).split = s.split ∧
    (s.judgePassEnd tag address expected a).lines = s.lines ∧
    (s.judgePassEnd tag address expected a).slots = s.slots ∧
    (s.judgePassEnd tag address expected a).stations = s.stations ∧
    (s.judgePassEnd tag address expected a).served = s.served ∧
    (s.judgePassEnd tag address expected a).console = s.console ∧
    (s.judgePassEnd tag address expected a).radio = s.radio ∧
    (s.judgePassEnd tag address expected a).links = s.links ∧
    (s.judgePassEnd tag address expected a).entries = s.entries ∧
    (s.judgePassEnd tag address expected a).outputs = s.outputs ∧
    (s.judgePassEnd tag address expected a).elements = s.elements ∧
    (s.judgePassEnd tag address expected a).claims = s.claims ∧
    (s.judgePassEnd tag address expected a).sensors = s.sensors ∧
    (s.judgePassEnd tag address expected a).scores = s.scores ∧
    (s.judgePassEnd tag address expected a).pending = s.pending := by
  simp only [State.judgePassEnd]
  and_intros <;> (repeat' split) <;> simp

@[simp] theorem State.endPass_keeps (s : State) (a : Option BusFrame) :
    (s.endPass a).tables = s.tables ∧ (s.endPass a).clocks = s.clocks ∧ (s.endPass a).split = s.split ∧
    (s.endPass a).lines = s.lines ∧ (s.endPass a).slots = s.slots ∧ (s.endPass a).stations = s.stations ∧
    (s.endPass a).served = s.served ∧ (s.endPass a).console = s.console ∧ (s.endPass a).radio = s.radio ∧
    (s.endPass a).links = s.links ∧ (s.endPass a).entries = s.entries ∧ (s.endPass a).outputs = s.outputs ∧
    (s.endPass a).elements = s.elements ∧ (s.endPass a).claims = s.claims ∧ (s.endPass a).sensors = s.sensors ∧
    (s.endPass a).scores = s.scores ∧ (s.endPass a).pending = s.pending := by
  simp only [State.endPass]
  and_intros <;> (repeat' split) <;> simp

@[simp] theorem State.busResetWaitEnd_keeps (s : State) :
    (busResetWaitEnd s).tables = s.tables ∧ (busResetWaitEnd s).clocks = s.clocks ∧
    (busResetWaitEnd s).split = s.split ∧ (busResetWaitEnd s).lines = s.lines ∧ (busResetWaitEnd s).slots = s.slots ∧
    (busResetWaitEnd s).stations = s.stations ∧ (busResetWaitEnd s).served = s.served ∧
    (busResetWaitEnd s).console = s.console ∧ (busResetWaitEnd s).radio = s.radio ∧
    (busResetWaitEnd s).links = s.links ∧ (busResetWaitEnd s).entries = s.entries ∧
    (busResetWaitEnd s).outputs = s.outputs ∧ (busResetWaitEnd s).elements = s.elements ∧
    (busResetWaitEnd s).claims = s.claims ∧ (busResetWaitEnd s).sensors = s.sensors ∧
    (busResetWaitEnd s).scores = s.scores ∧ (busResetWaitEnd s).trunk = s.trunk ∧
    (busResetWaitEnd s).pending = s.pending := by
  simp only [busResetWaitEnd]
  and_intros <;> (repeat' split) <;> simp

@[simp] theorem State.sweepStart_keeps (s : State) :
    (sweepStart s).tables = s.tables ∧ (sweepStart s).clocks = s.clocks ∧ (sweepStart s).split = s.split ∧
    (sweepStart s).lines = s.lines ∧ (sweepStart s).slots = s.slots ∧ (sweepStart s).stations = s.stations ∧
    (sweepStart s).served = s.served ∧ (sweepStart s).console = s.console ∧ (sweepStart s).radio = s.radio ∧
    (sweepStart s).links = s.links ∧ (sweepStart s).entries = s.entries ∧ (sweepStart s).outputs = s.outputs ∧
    (sweepStart s).elements = s.elements ∧ (sweepStart s).claims = s.claims ∧ (sweepStart s).sensors = s.sensors ∧
    (sweepStart s).scores = s.scores ∧ (sweepStart s).trunk = s.trunk ∧ (sweepStart s).pending = s.pending := by
  simp only [sweepStart]
  and_intros <;> (repeat' split) <;> simp

/-! ## Console lines -/

@[simp] theorem State.takeFrame_keeps (s : State) (n : Fin 12) :
    (s.takeFrame n).tables = s.tables ∧ (s.takeFrame n).clocks = s.clocks ∧ (s.takeFrame n).split = s.split ∧
    (s.takeFrame n).lines = s.lines ∧ (s.takeFrame n).slots = s.slots ∧ (s.takeFrame n).stations = s.stations ∧
    (s.takeFrame n).radio = s.radio ∧ (s.takeFrame n).links = s.links ∧ (s.takeFrame n).entries = s.entries ∧
    (s.takeFrame n).outputs = s.outputs ∧ (s.takeFrame n).bus = s.bus ∧ (s.takeFrame n).elements = s.elements ∧
    (s.takeFrame n).claims = s.claims ∧ (s.takeFrame n).sensors = s.sensors ∧ (s.takeFrame n).scores = s.scores ∧
    (s.takeFrame n).trunk = s.trunk ∧ (s.takeFrame n).pending = s.pending := by
  simp [State.takeFrame]

@[simp] theorem State.control_keeps (s : State) (n : Fin 12) (f : ControlFrame) :
    (s.control n f).tables = s.tables ∧ (s.control n f).clocks = s.clocks ∧ (s.control n f).split = s.split ∧
    (s.control n f).lines = s.lines ∧ (s.control n f).served = s.served ∧ (s.control n f).radio = s.radio ∧
    (s.control n f).links = s.links ∧ (s.control n f).entries = s.entries ∧ (s.control n f).bus = s.bus ∧
    (s.control n f).elements = s.elements ∧ (s.control n f).sensors = s.sensors ∧ (s.control n f).scores = s.scores ∧
    (s.control n f).trunk = s.trunk ∧ (s.control n f).pending = s.pending := by
  simp only [State.control]
  and_intros <;> (repeat' split) <;> simp

/-! ## Trunk port -/

@[simp] theorem State.counted_keeps (s : State) :
    (s.counted).tables = s.tables ∧ (s.counted).clocks = s.clocks ∧ (s.counted).split = s.split ∧
    (s.counted).lines = s.lines ∧ (s.counted).slots = s.slots ∧ (s.counted).stations = s.stations ∧
    (s.counted).served = s.served ∧ (s.counted).console = s.console ∧ (s.counted).radio = s.radio ∧
    (s.counted).links = s.links ∧ (s.counted).entries = s.entries ∧ (s.counted).outputs = s.outputs ∧
    (s.counted).bus = s.bus ∧ (s.counted).elements = s.elements ∧ (s.counted).claims = s.claims ∧
    (s.counted).sensors = s.sensors ∧ (s.counted).scores = s.scores ∧ (s.counted).pending = s.pending := by
  simp [State.counted]

@[simp] theorem State.replied_keeps (s : State) (tag : Byte) (code : ResultCode) :
    (s.replied tag code).tables = s.tables ∧ (s.replied tag code).clocks = s.clocks ∧
    (s.replied tag code).split = s.split ∧ (s.replied tag code).lines = s.lines ∧
    (s.replied tag code).slots = s.slots ∧ (s.replied tag code).stations = s.stations ∧
    (s.replied tag code).served = s.served ∧ (s.replied tag code).console = s.console ∧
    (s.replied tag code).radio = s.radio ∧ (s.replied tag code).links = s.links ∧
    (s.replied tag code).entries = s.entries ∧ (s.replied tag code).outputs = s.outputs ∧
    (s.replied tag code).bus = s.bus ∧ (s.replied tag code).elements = s.elements ∧
    (s.replied tag code).claims = s.claims ∧ (s.replied tag code).sensors = s.sensors ∧
    (s.replied tag code).scores = s.scores ∧ (s.replied tag code).pending = s.pending := by
  simp [State.replied]

end Sys2Proof.Machine
end

