-- ==== Sys2Proof/Laws/Derived.lean ====
section
/-! SUPPORT. What is derived from the split flag, the match tables and the arena lines stays under every operation that leaves
those as they were. -/

namespace Sys2Proof.Machine

theorem State.halves_congr {s t : State} (e : t.split = s.split) :
    t.slotHalf = s.slotHalf ∧ t.stationHalf = s.stationHalf ∧ t.elementHalf = s.elementHalf ∧ t.targets = s.targets := by
  and_intros <;> funext
  · simp only [State.slotHalf, e]
  · simp only [State.stationHalf, e]
  · simp only [State.elementHalf, e]
  · simp only [State.targets, e]

theorem State.tables_congr {s t : State} (e : t.split = s.split) (m : t.tables = s.tables) :
    t.slotHalf = s.slotHalf ∧ t.stationHalf = s.stationHalf ∧ t.elementHalf = s.elementHalf ∧ t.targets = s.targets ∧
    t.active = s.active ∧ t.lock = s.lock ∧ t.slotEntry = s.slotEntry ∧ t.stationEntry = s.stationEntry := by
  obtain ⟨h1, h2, h3, h4⟩ := State.halves_congr e
  refine ⟨h1, h2, h3, h4, ?_, ?_, ?_, ?_⟩ <;> funext
  · simp only [State.active, m]
  · simp only [State.lock, State.lockCore, State.missingSlots, State.missingStations, m]
  · simp only [State.slotEntry, State.active, h1, m]
  · simp only [State.stationEntry, State.active, h2, m]

theorem State.lines_congr {s t : State} (e : t.split = s.split) (l : t.lines = s.lines) :
    t.slotHalf = s.slotHalf ∧ t.stationHalf = s.stationHalf ∧ t.elementHalf = s.elementHalf ∧ t.targets = s.targets ∧
    t.engagedWith = s.engagedWith ∧ t.lineHold = s.lineHold := by
  obtain ⟨h1, h2, h3, h4⟩ := State.halves_congr e
  have h5 : t.engagedWith = s.engagedWith := by funext a h; simp only [State.engagedWith, l, h4]
  exact ⟨h1, h2, h3, h4, h5, by funext h; simp only [State.lineHold, h5]⟩

theorem State.derived_congr {s t : State} (e : t.split = s.split) (m : t.tables = s.tables) (l : t.lines = s.lines) :
    t.slotHalf = s.slotHalf ∧ t.stationHalf = s.stationHalf ∧ t.elementHalf = s.elementHalf ∧ t.targets = s.targets ∧
    t.active = s.active ∧ t.lock = s.lock ∧ t.slotEntry = s.slotEntry ∧ t.stationEntry = s.stationEntry ∧
    t.engagedWith = s.engagedWith ∧ t.lineHold = s.lineHold := by
  obtain ⟨h1, h2, h3, h4, h5, h6, h7, h8⟩ := State.tables_congr e m
  obtain ⟨-, -, -, -, h9, h10⟩ := State.lines_congr e l
  exact ⟨h1, h2, h3, h4, h5, h6, h7, h8, h9, h10⟩

@[simp] theorem State.setTables_derived (s : State) (h : Half) (f : MatchTables → MatchTables) :
    (s.setTables h f).slotHalf = s.slotHalf ∧ (s.setTables h f).stationHalf = s.stationHalf ∧
    (s.setTables h f).elementHalf = s.elementHalf ∧ (s.setTables h f).targets = s.targets ∧
    (s.setTables h f).engagedWith = s.engagedWith ∧ (s.setTables h f).lineHold = s.lineHold :=
  State.lines_congr (by simp) (by simp)

@[simp] theorem State.setClock_derived (s : State) (h : Half) (f : Clock → Clock) :
    (s.setClock h f).slotHalf = s.slotHalf ∧ (s.setClock h f).stationHalf = s.stationHalf ∧
    (s.setClock h f).elementHalf = s.elementHalf ∧ (s.setClock h f).targets = s.targets ∧
    (s.setClock h f).active = s.active ∧ (s.setClock h f).lock = s.lock ∧ (s.setClock h f).slotEntry = s.slotEntry ∧
    (s.setClock h f).stationEntry = s.stationEntry ∧ (s.setClock h f).engagedWith = s.engagedWith ∧
    (s.setClock h f).lineHold = s.lineHold :=
  State.derived_congr (by simp) (by simp) (by simp)

@[simp] theorem State.setLine_derived (s : State) (n : Fin 4) (f : ArenaLine → ArenaLine) :
    (s.setLine n f).slotHalf = s.slotHalf ∧ (s.setLine n f).stationHalf = s.stationHalf ∧
    (s.setLine n f).elementHalf = s.elementHalf ∧ (s.setLine n f).targets = s.targets ∧
    (s.setLine n f).active = s.active ∧ (s.setLine n f).lock = s.lock ∧ (s.setLine n f).slotEntry = s.slotEntry ∧
    (s.setLine n f).stationEntry = s.stationEntry :=
  State.tables_congr (by simp) (by simp)

@[simp] theorem State.setSlot_derived (s : State) (i : Fin 24) (f : SlotAdmission → SlotAdmission) :
    (s.setSlot i f).slotHalf = s.slotHalf ∧ (s.setSlot i f).stationHalf = s.stationHalf ∧
    (s.setSlot i f).elementHalf = s.elementHalf ∧ (s.setSlot i f).targets = s.targets ∧
    (s.setSlot i f).active = s.active ∧ (s.setSlot i f).lock = s.lock ∧ (s.setSlot i f).slotEntry = s.slotEntry ∧
    (s.setSlot i f).stationEntry = s.stationEntry ∧ (s.setSlot i f).engagedWith = s.engagedWith ∧
    (s.setSlot i f).lineHold = s.lineHold :=
  State.derived_congr (by simp) (by simp) (by simp)

@[simp] theorem State.setSlots_derived (s : State) (f : Fin 24 → SlotAdmission → SlotAdmission) :
    (s.setSlots f).slotHalf = s.slotHalf ∧ (s.setSlots f).stationHalf = s.stationHalf ∧
    (s.setSlots f).elementHalf = s.elementHalf ∧ (s.setSlots f).targets = s.targets ∧
    (s.setSlots f).active = s.active ∧ (s.setSlots f).lock = s.lock ∧ (s.setSlots f).slotEntry = s.slotEntry ∧
    (s.setSlots f).stationEntry = s.stationEntry ∧ (s.setSlots f).engagedWith = s.engagedWith ∧
    (s.setSlots f).lineHold = s.lineHold :=
  State.derived_congr (by simp) (by simp) (by simp)

@[simp] theorem State.setStation_derived (s : State) (n : Fin 12) (f : StationAdmission → StationAdmission) :
    (s.setStation n f).slotHalf = s.slotHalf ∧ (s.setStation n f).stationHalf = s.stationHalf ∧
    (s.setStation n f).elementHalf = s.elementHalf ∧ (s.setStation n f).targets = s.targets ∧
    (s.setStation n f).active = s.active ∧ (s.setStation n f).lock = s.lock ∧
    (s.setStation n f).slotEntry = s.slotEntry ∧ (s.setStation n f).stationEntry = s.stationEntry ∧
    (s.setStation n f).engagedWith = s.engagedWith ∧ (s.setStation n f).lineHold = s.lineHold :=
  State.derived_congr (by simp) (by simp) (by simp)

@[simp] theorem State.setStations_derived (s : State) (f : Fin 12 → StationAdmission → StationAdmission) :
    (s.setStations f).slotHalf = s.slotHalf ∧ (s.setStations f).stationHalf = s.stationHalf ∧
    (s.setStations f).elementHalf = s.elementHalf ∧ (s.setStations f).targets = s.targets ∧
    (s.setStations f).active = s.active ∧ (s.setStations f).lock = s.lock ∧
    (s.setStations f).slotEntry = s.slotEntry ∧ (s.setStations f).stationEntry = s.stationEntry ∧
    (s.setStations f).engagedWith = s.engagedWith ∧ (s.setStations f).lineHold = s.lineHold :=
  State.derived_congr (by simp) (by simp) (by simp)

@[simp] theorem State.setConsole_derived (s : State) (n : Fin 12) (f : ConsoleLine → ConsoleLine) :
    (s.setConsole n f).slotHalf = s.slotHalf ∧ (s.setConsole n f).stationHalf = s.stationHalf ∧
    (s.setConsole n f).elementHalf = s.elementHalf ∧ (s.setConsole n f).targets = s.targets ∧
    (s.setConsole n f).active = s.active ∧ (s.setConsole n f).lock = s.lock ∧
    (s.setConsole n f).slotEntry = s.slotEntry ∧ (s.setConsole n f).stationEntry = s.stationEntry ∧
    (s.setConsole n f).engagedWith = s.engagedWith ∧ (s.setConsole n f).lineHold = s.lineHold :=
  State.derived_congr (by simp) (by simp) (by simp)

@[simp] theorem State.setRadio_derived (s : State) (f : Radio → Radio) :
    (s.setRadio f).slotHalf = s.slotHalf ∧ (s.setRadio f).stationHalf = s.stationHalf ∧
    (s.setRadio f).elementHalf = s.elementHalf ∧ (s.setRadio f).targets = s.targets ∧
    (s.setRadio f).active = s.active ∧ (s.setRadio f).lock = s.lock ∧ (s.setRadio f).slotEntry = s.slotEntry ∧
    (s.setRadio f).stationEntry = s.stationEntry ∧ (s.setRadio f).engagedWith = s.engagedWith ∧
    (s.setRadio f).lineHold = s.lineHold :=
  State.derived_congr (by simp) (by simp) (by simp)

@[simp] theorem State.countRadio_derived (s : State) (f : RadioCounters → RadioCounters) :
    (s.countRadio f).slotHalf = s.slotHalf ∧ (s.countRadio f).stationHalf = s.stationHalf ∧
    (s.countRadio f).elementHalf = s.elementHalf ∧ (s.countRadio f).targets = s.targets ∧
    (s.countRadio f).active = s.active ∧ (s.countRadio f).lock = s.lock ∧ (s.countRadio f).slotEntry = s.slotEntry ∧
    (s.countRadio f).stationEntry = s.stationEntry ∧ (s.countRadio f).engagedWith = s.engagedWith ∧
    (s.countRadio f).lineHold = s.lineHold :=
  State.derived_congr (by simp) (by simp) (by simp)

@[simp] theorem State.setLink_derived (s : State) (i : Fin 24) (f : SlotLink → SlotLink) :
    (s.setLink i f).slotHalf = s.slotHalf ∧ (s.setLink i f).stationHalf = s.stationHalf ∧
    (s.setLink i f).elementHalf = s.elementHalf ∧ (s.setLink i f).targets = s.targets ∧
    (s.setLink i f).active = s.active ∧ (s.setLink i f).lock = s.lock ∧ (s.setLink i f).slotEntry = s.slotEntry ∧
    (s.setLink i f).stationEntry = s.stationEntry ∧ (s.setLink i f).engagedWith = s.engagedWith ∧
    (s.setLink i f).lineHold = s.lineHold :=
  State.derived_congr (by simp) (by simp) (by simp)

@[simp] theorem State.setLinks_derived (s : State) (f : Fin 24 → SlotLink → SlotLink) :
    (s.setLinks f).slotHalf = s.slotHalf ∧ (s.setLinks f).stationHalf = s.stationHalf ∧
    (s.setLinks f).elementHalf = s.elementHalf ∧ (s.setLinks f).targets = s.targets ∧
    (s.setLinks f).active = s.active ∧ (s.setLinks f).lock = s.lock ∧ (s.setLinks f).slotEntry = s.slotEntry ∧
    (s.setLinks f).stationEntry = s.stationEntry ∧ (s.setLinks f).engagedWith = s.engagedWith ∧
    (s.setLinks f).lineHold = s.lineHold :=
  State.derived_congr (by simp) (by simp) (by simp)

@[simp] theorem State.setOutput_derived (s : State) (e : Fin 32) (k : Fin 2) (f : OutputState → OutputState) :
    (s.setOutput e k f).slotHalf = s.slotHalf ∧ (s.setOutput e k f).stationHalf = s.stationHalf ∧
    (s.setOutput e k f).elementHalf = s.elementHalf ∧ (s.setOutput e k f).targets = s.targets ∧
    (s.setOutput e k f).active = s.active ∧ (s.setOutput e k f).lock = s.lock ∧
    (s.setOutput e k f).slotEntry = s.slotEntry ∧ (s.setOutput e k f).stationEntry = s.stationEntry ∧
    (s.setOutput e k f).engagedWith = s.engagedWith ∧ (s.setOutput e k f).lineHold = s.lineHold :=
  State.derived_congr (by simp) (by simp) (by simp)

@[simp] theorem State.setBus_derived (s : State) (f : Bus → Bus) :
    (s.setBus f).slotHalf = s.slotHalf ∧ (s.setBus f).stationHalf = s.stationHalf ∧
    (s.setBus f).elementHalf = s.elementHalf ∧ (s.setBus f).targets = s.targets ∧ (s.setBus f).active = s.active ∧
    (s.setBus f).lock = s.lock ∧ (s.setBus f).slotEntry = s.slotEntry ∧ (s.setBus f).stationEntry = s.stationEntry ∧
    (s.setBus f).engagedWith = s.engagedWith ∧ (s.setBus f).lineHold = s.lineHold :=
  State.derived_congr (by simp) (by simp) (by simp)

@[simp] theorem State.setElement_derived (s : State) (e : Fin 32) (f : ElementLink → ElementLink) :
    (s.setElement e f).slotHalf = s.slotHalf ∧ (s.setElement e f).stationHalf = s.stationHalf ∧
    (s.setElement e f).elementHalf = s.elementHalf ∧ (s.setElement e f).targets = s.targets ∧
    (s.setElement e f).active = s.active ∧ (s.setElement e f).lock = s.lock ∧
    (s.setElement e f).slotEntry = s.slotEntry ∧ (s.setElement e f).stationEntry = s.stationEntry ∧
    (s.setElement e f).engagedWith = s.engagedWith ∧ (s.setElement e f).lineHold = s.lineHold :=
  State.derived_congr (by simp) (by simp) (by simp)

@[simp] theorem State.setClaim_derived (s : State) (e : Fin 32) (f : Claim → Claim) :
    (s.setClaim e f).slotHalf = s.slotHalf ∧ (s.setClaim e f).stationHalf = s.stationHalf ∧
    (s.setClaim e f).elementHalf = s.elementHalf ∧ (s.setClaim e f).targets = s.targets ∧
    (s.setClaim e f).active = s.active ∧ (s.setClaim e f).lock = s.lock ∧ (s.setClaim e f).slotEntry = s.slotEntry ∧
    (s.setClaim e f).stationEntry = s.stationEntry ∧ (s.setClaim e f).engagedWith = s.engagedWith ∧
    (s.setClaim e f).lineHold = s.lineHold :=
  State.derived_congr (by simp) (by simp) (by simp)

@[simp] theorem State.setClaims_derived (s : State) (f : Fin 32 → Claim → Claim) :
    (s.setClaims f).slotHalf = s.slotHalf ∧ (s.setClaims f).stationHalf = s.stationHalf ∧
    (s.setClaims f).elementHalf = s.elementHalf ∧ (s.setClaims f).targets = s.targets ∧
    (s.setClaims f).active = s.active ∧ (s.setClaims f).lock = s.lock ∧ (s.setClaims f).slotEntry = s.slotEntry ∧
    (s.setClaims f).stationEntry = s.stationEntry ∧ (s.setClaims f).engagedWith = s.engagedWith ∧
    (s.setClaims f).lineHold = s.lineHold :=
  State.derived_congr (by simp) (by simp) (by simp)

@[simp] theorem State.setSensor_derived (s : State) (e : Fin 32) (k : Fin 2) (f : Sensor → Sensor) :
    (s.setSensor e k f).slotHalf = s.slotHalf ∧ (s.setSensor e k f).stationHalf = s.stationHalf ∧
    (s.setSensor e k f).elementHalf = s.elementHalf ∧ (s.setSensor e k f).targets = s.targets ∧
    (s.setSensor e k f).active = s.active ∧ (s.setSensor e k f).lock = s.lock ∧
    (s.setSensor e k f).slotEntry = s.slotEntry ∧ (s.setSensor e k f).stationEntry = s.stationEntry ∧
    (s.setSensor e k f).engagedWith = s.engagedWith ∧ (s.setSensor e k f).lineHold = s.lineHold :=
  State.derived_congr (by simp) (by simp) (by simp)

@[simp] theorem State.setSensors_derived (s : State) (f : Fin 32 → Fin 2 → Sensor → Sensor) :
    (s.setSensors f).slotHalf = s.slotHalf ∧ (s.setSensors f).stationHalf = s.stationHalf ∧
    (s.setSensors f).elementHalf = s.elementHalf ∧ (s.setSensors f).targets = s.targets ∧
    (s.setSensors f).active = s.active ∧ (s.setSensors f).lock = s.lock ∧ (s.setSensors f).slotEntry = s.slotEntry ∧
    (s.setSensors f).stationEntry = s.stationEntry ∧ (s.setSensors f).engagedWith = s.engagedWith ∧
    (s.setSensors f).lineHold = s.lineHold :=
  State.derived_congr (by simp) (by simp) (by simp)

@[simp] theorem State.setScores_derived (s : State) (h : Half) (f : Scores → Scores) :
    (s.setScores h f).slotHalf = s.slotHalf ∧ (s.setScores h f).stationHalf = s.stationHalf ∧
    (s.setScores h f).elementHalf = s.elementHalf ∧ (s.setScores h f).targets = s.targets ∧
    (s.setScores h f).active = s.active ∧ (s.setScores h f).lock = s.lock ∧
    (s.setScores h f).slotEntry = s.slotEntry ∧ (s.setScores h f).stationEntry = s.stationEntry ∧
    (s.setScores h f).engagedWith = s.engagedWith ∧ (s.setScores h f).lineHold = s.lineHold :=
  State.derived_congr (by simp) (by simp) (by simp)

@[simp] theorem State.setTrunk_derived (s : State) (f : Trunk → Trunk) :
    (s.setTrunk f).slotHalf = s.slotHalf ∧ (s.setTrunk f).stationHalf = s.stationHalf ∧
    (s.setTrunk f).elementHalf = s.elementHalf ∧ (s.setTrunk f).targets = s.targets ∧
    (s.setTrunk f).active = s.active ∧ (s.setTrunk f).lock = s.lock ∧ (s.setTrunk f).slotEntry = s.slotEntry ∧
    (s.setTrunk f).stationEntry = s.stationEntry ∧ (s.setTrunk f).engagedWith = s.engagedWith ∧
    (s.setTrunk f).lineHold = s.lineHold :=
  State.derived_congr (by simp) (by simp) (by simp)

@[simp] theorem State.report_derived (s : State) (r : Report) :
    (s.report r).slotHalf = s.slotHalf ∧ (s.report r).stationHalf = s.stationHalf ∧
    (s.report r).elementHalf = s.elementHalf ∧ (s.report r).targets = s.targets ∧ (s.report r).active = s.active ∧
    (s.report r).lock = s.lock ∧ (s.report r).slotEntry = s.slotEntry ∧ (s.report r).stationEntry = s.stationEntry ∧
    (s.report r).engagedWith = s.engagedWith ∧ (s.report r).lineHold = s.lineHold :=
  State.derived_congr (by simp) (by simp) (by simp)

@[simp] theorem State.reply_derived (s : State) (r : Reply) :
    (s.reply r).slotHalf = s.slotHalf ∧ (s.reply r).stationHalf = s.stationHalf ∧
    (s.reply r).elementHalf = s.elementHalf ∧ (s.reply r).targets = s.targets ∧ (s.reply r).active = s.active ∧
    (s.reply r).lock = s.lock ∧ (s.reply r).slotEntry = s.slotEntry ∧ (s.reply r).stationEntry = s.stationEntry ∧
    (s.reply r).engagedWith = s.engagedWith ∧ (s.reply r).lineHold = s.lineHold :=
  State.derived_congr (by simp) (by simp) (by simp)

@[simp] theorem State.answer_derived (s : State) (tag : Byte) (code : ResultCode) (data : List Byte) :
    (s.answer tag code data).slotHalf = s.slotHalf ∧ (s.answer tag code data).stationHalf = s.stationHalf ∧
    (s.answer tag code data).elementHalf = s.elementHalf ∧ (s.answer tag code data).targets = s.targets ∧
    (s.answer tag code data).active = s.active ∧ (s.answer tag code data).lock = s.lock ∧
    (s.answer tag code data).slotEntry = s.slotEntry ∧ (s.answer tag code data).stationEntry = s.stationEntry ∧
    (s.answer tag code data).engagedWith = s.engagedWith ∧ (s.answer tag code data).lineHold = s.lineHold :=
  State.derived_congr (by simp) (by simp) (by simp)

@[simp] theorem State.tell_derived (s : State) (n : Fin 12) (e : Byte) (a : ClaimAnswer) :
    (s.tell n e a).slotHalf = s.slotHalf ∧ (s.tell n e a).stationHalf = s.stationHalf ∧
    (s.tell n e a).elementHalf = s.elementHalf ∧ (s.tell n e a).targets = s.targets ∧
    (s.tell n e a).active = s.active ∧ (s.tell n e a).lock = s.lock ∧ (s.tell n e a).slotEntry = s.slotEntry ∧
    (s.tell n e a).stationEntry = s.stationEntry ∧ (s.tell n e a).engagedWith = s.engagedWith ∧
    (s.tell n e a).lineHold = s.lineHold :=
  State.derived_congr (by simp) (by simp) (by simp)

@[simp] theorem State.applyOutput_derived (s : State) (e : Fin 32) (k : Fin 2) (v : Byte) :
    (s.applyOutput e k v).slotHalf = s.slotHalf ∧ (s.applyOutput e k v).stationHalf = s.stationHalf ∧
    (s.applyOutput e k v).elementHalf = s.elementHalf ∧ (s.applyOutput e k v).targets = s.targets ∧
    (s.applyOutput e k v).active = s.active ∧ (s.applyOutput e k v).lock = s.lock ∧
    (s.applyOutput e k v).slotEntry = s.slotEntry ∧ (s.applyOutput e k v).stationEntry = s.stationEntry ∧
    (s.applyOutput e k v).engagedWith = s.engagedWith ∧ (s.applyOutput e k v).lineHold = s.lineHold :=
  State.derived_congr (by simp) (by simp) (by simp)

@[simp] theorem State.credit_derived (s : State) (h : Half) (points : Nat) (side : Alliance) :
    (s.credit h points side).slotHalf = s.slotHalf ∧ (s.credit h points side).stationHalf = s.stationHalf ∧
    (s.credit h points side).elementHalf = s.elementHalf ∧ (s.credit h points side).targets = s.targets ∧
    (s.credit h points side).active = s.active ∧ (s.credit h points side).lock = s.lock ∧
    (s.credit h points side).slotEntry = s.slotEntry ∧ (s.credit h points side).stationEntry = s.stationEntry ∧
    (s.credit h points side).engagedWith = s.engagedWith ∧ (s.credit h points side).lineHold = s.lineHold :=
  State.derived_congr (by simp) (by simp) (by simp)

@[simp] theorem State.grant_derived (s : State) (e : Fin 32) (n : Fin 12) (w : List (Fin 12)) :
    (s.grant e n w).slotHalf = s.slotHalf ∧ (s.grant e n w).stationHalf = s.stationHalf ∧
    (s.grant e n w).elementHalf = s.elementHalf ∧ (s.grant e n w).targets = s.targets ∧
    (s.grant e n w).active = s.active ∧ (s.grant e n w).lock = s.lock ∧ (s.grant e n w).slotEntry = s.slotEntry ∧
    (s.grant e n w).stationEntry = s.stationEntry ∧ (s.grant e n w).engagedWith = s.engagedWith ∧
    (s.grant e n w).lineHold = s.lineHold :=
  State.derived_congr (by simp) (by simp) (by simp)

@[simp] theorem State.promote_derived (s : State) (e : Fin 32) :
    (s.promote e).slotHalf = s.slotHalf ∧ (s.promote e).stationHalf = s.stationHalf ∧
    (s.promote e).elementHalf = s.elementHalf ∧ (s.promote e).targets = s.targets ∧ (s.promote e).active = s.active ∧
    (s.promote e).lock = s.lock ∧ (s.promote e).slotEntry = s.slotEntry ∧
    (s.promote e).stationEntry = s.stationEntry ∧ (s.promote e).engagedWith = s.engagedWith ∧
    (s.promote e).lineHold = s.lineHold :=
  State.derived_congr (by simp) (by simp) (by simp)

@[simp] theorem State.expireHold_derived (s : State) (e : Fin 32) :
    (s.expireHold e).slotHalf = s.slotHalf ∧ (s.expireHold e).stationHalf = s.stationHalf ∧
    (s.expireHold e).elementHalf = s.elementHalf ∧ (s.expireHold e).targets = s.targets ∧
    (s.expireHold e).active = s.active ∧ (s.expireHold e).lock = s.lock ∧ (s.expireHold e).slotEntry = s.slotEntry ∧
    (s.expireHold e).stationEntry = s.stationEntry ∧ (s.expireHold e).engagedWith = s.engagedWith ∧
    (s.expireHold e).lineHold = s.lineHold :=
  State.derived_congr (by simp) (by simp) (by simp)

@[simp] theorem State.flush_derived (s : State) (reason : ClaimReason) (e : Fin 32) :
    (s.flush reason e).slotHalf = s.slotHalf ∧ (s.flush reason e).stationHalf = s.stationHalf ∧
    (s.flush reason e).elementHalf = s.elementHalf ∧ (s.flush reason e).targets = s.targets ∧
    (s.flush reason e).active = s.active ∧ (s.flush reason e).lock = s.lock ∧
    (s.flush reason e).slotEntry = s.slotEntry ∧ (s.flush reason e).stationEntry = s.stationEntry ∧
    (s.flush reason e).engagedWith = s.engagedWith ∧ (s.flush reason e).lineHold = s.lineHold :=
  State.derived_congr (by simp) (by simp) (by simp)

@[simp] theorem State.flushStopped_derived (s : State) (h : Half) :
    (s.flushStopped h).slotHalf = s.slotHalf ∧ (s.flushStopped h).stationHalf = s.stationHalf ∧
    (s.flushStopped h).elementHalf = s.elementHalf ∧ (s.flushStopped h).targets = s.targets ∧
    (s.flushStopped h).active = s.active ∧ (s.flushStopped h).lock = s.lock ∧
    (s.flushStopped h).slotEntry = s.slotEntry ∧ (s.flushStopped h).stationEntry = s.stationEntry ∧
    (s.flushStopped h).engagedWith = s.engagedWith ∧ (s.flushStopped h).lineHold = s.lineHold :=
  State.derived_congr (by simp) (by simp) (by simp)

@[simp] theorem State.flushPhase_derived (s : State) (h : Half) (kind : PhaseKind) (p : Profile) :
    (s.flushPhase h kind p).slotHalf = s.slotHalf ∧ (s.flushPhase h kind p).stationHalf = s.stationHalf ∧
    (s.flushPhase h kind p).elementHalf = s.elementHalf ∧ (s.flushPhase h kind p).targets = s.targets ∧
    (s.flushPhase h kind p).active = s.active ∧ (s.flushPhase h kind p).lock = s.lock ∧
    (s.flushPhase h kind p).slotEntry = s.slotEntry ∧ (s.flushPhase h kind p).stationEntry = s.stationEntry ∧
    (s.flushPhase h kind p).engagedWith = s.engagedWith ∧ (s.flushPhase h kind p).lineHold = s.lineHold :=
  State.derived_congr (by simp) (by simp) (by simp)

@[simp] theorem State.flushSilent_derived (s : State) (h : Half) :
    (s.flushSilent h).slotHalf = s.slotHalf ∧ (s.flushSilent h).stationHalf = s.stationHalf ∧
    (s.flushSilent h).elementHalf = s.elementHalf ∧ (s.flushSilent h).targets = s.targets ∧
    (s.flushSilent h).active = s.active ∧ (s.flushSilent h).lock = s.lock ∧
    (s.flushSilent h).slotEntry = s.slotEntry ∧ (s.flushSilent h).stationEntry = s.stationEntry ∧
    (s.flushSilent h).engagedWith = s.engagedWith ∧ (s.flushSilent h).lineHold = s.lineHold :=
  State.derived_congr (by simp) (by simp) (by simp)

@[simp] theorem State.dropStation_derived (s : State) (n : Fin 12) (e : Fin 32) :
    (s.dropStation n e).slotHalf = s.slotHalf ∧ (s.dropStation n e).stationHalf = s.stationHalf ∧
    (s.dropStation n e).elementHalf = s.elementHalf ∧ (s.dropStation n e).targets = s.targets ∧
    (s.dropStation n e).active = s.active ∧ (s.dropStation n e).lock = s.lock ∧
    (s.dropStation n e).slotEntry = s.slotEntry ∧ (s.dropStation n e).stationEntry = s.stationEntry ∧
    (s.dropStation n e).engagedWith = s.engagedWith ∧ (s.dropStation n e).lineHold = s.lineHold :=
  State.derived_congr (by simp) (by simp) (by simp)

@[simp] theorem State.dropClaims_derived (s : State) (n : Fin 12) :
    (s.dropClaims n).slotHalf = s.slotHalf ∧ (s.dropClaims n).stationHalf = s.stationHalf ∧
    (s.dropClaims n).elementHalf = s.elementHalf ∧ (s.dropClaims n).targets = s.targets ∧
    (s.dropClaims n).active = s.active ∧ (s.dropClaims n).lock = s.lock ∧ (s.dropClaims n).slotEntry = s.slotEntry ∧
    (s.dropClaims n).stationEntry = s.stationEntry ∧ (s.dropClaims n).engagedWith = s.engagedWith ∧
    (s.dropClaims n).lineHold = s.lineHold :=
  State.derived_congr (by simp) (by simp) (by simp)

@[simp] theorem State.accrue_derived (s : State) (h : Half) (e : Fin 32) :
    (s.accrue h e).slotHalf = s.slotHalf ∧ (s.accrue h e).stationHalf = s.stationHalf ∧
    (s.accrue h e).elementHalf = s.elementHalf ∧ (s.accrue h e).targets = s.targets ∧
    (s.accrue h e).active = s.active ∧ (s.accrue h e).lock = s.lock ∧ (s.accrue h e).slotEntry = s.slotEntry ∧
    (s.accrue h e).stationEntry = s.stationEntry ∧ (s.accrue h e).engagedWith = s.engagedWith ∧
    (s.accrue h e).lineHold = s.lineHold :=
  State.derived_congr (by simp) (by simp) (by simp)

@[simp] theorem State.countHold_derived (s : State) (e : Fin 32) :
    (s.countHold e).slotHalf = s.slotHalf ∧ (s.countHold e).stationHalf = s.stationHalf ∧
    (s.countHold e).elementHalf = s.elementHalf ∧ (s.countHold e).targets = s.targets ∧
    (s.countHold e).active = s.active ∧ (s.countHold e).lock = s.lock ∧ (s.countHold e).slotEntry = s.slotEntry ∧
    (s.countHold e).stationEntry = s.stationEntry ∧ (s.countHold e).engagedWith = s.engagedWith ∧
    (s.countHold e).lineHold = s.lineHold :=
  State.derived_congr (by simp) (by simp) (by simp)

@[simp] theorem State.claimTenth_derived (s : State) (h : Half) (e : Fin 32) :
    (s.claimTenth h e).slotHalf = s.slotHalf ∧ (s.claimTenth h e).stationHalf = s.stationHalf ∧
    (s.claimTenth h e).elementHalf = s.elementHalf ∧ (s.claimTenth h e).targets = s.targets ∧
    (s.claimTenth h e).active = s.active ∧ (s.claimTenth h e).lock = s.lock ∧
    (s.claimTenth h e).slotEntry = s.slotEntry ∧ (s.claimTenth h e).stationEntry = s.stationEntry ∧
    (s.claimTenth h e).engagedWith = s.engagedWith ∧ (s.claimTenth h e).lineHold = s.lineHold :=
  State.derived_congr (by simp) (by simp) (by simp)

@[simp] theorem State.claimTenths_derived (s : State) (h : Half) :
    (s.claimTenths h).slotHalf = s.slotHalf ∧ (s.claimTenths h).stationHalf = s.stationHalf ∧
    (s.claimTenths h).elementHalf = s.elementHalf ∧ (s.claimTenths h).targets = s.targets ∧
    (s.claimTenths h).active = s.active ∧ (s.claimTenths h).lock = s.lock ∧
    (s.claimTenths h).slotEntry = s.slotEntry ∧ (s.claimTenths h).stationEntry = s.stationEntry ∧
    (s.claimTenths h).engagedWith = s.engagedWith ∧ (s.claimTenths h).lineHold = s.lineHold :=
  State.derived_congr (by simp) (by simp) (by simp)

@[simp] theorem State.request_derived (s : State) (n : Fin 12) (r : ElementRequest) :
    ((s.request n r).1).slotHalf = s.slotHalf ∧ ((s.request n r).1).stationHalf = s.stationHalf ∧
    ((s.request n r).1).elementHalf = s.elementHalf ∧ ((s.request n r).1).targets = s.targets ∧
    ((s.request n r).1).active = s.active ∧ ((s.request n r).1).lock = s.lock ∧
    ((s.request n r).1).slotEntry = s.slotEntry ∧ ((s.request n r).1).stationEntry = s.stationEntry ∧
    ((s.request n r).1).engagedWith = s.engagedWith ∧ ((s.request n r).1).lineHold = s.lineHold :=
  State.derived_congr (by simp) (by simp) (by simp)

@[simp] theorem State.holdTimerExpiry_derived (s : State) (e : Fin 32) :
    (holdTimerExpiry e s).slotHalf = s.slotHalf ∧ (holdTimerExpiry e s).stationHalf = s.stationHalf ∧
    (holdTimerExpiry e s).elementHalf = s.elementHalf ∧ (holdTimerExpiry e s).targets = s.targets ∧
    (holdTimerExpiry e s).active = s.active ∧ (holdTimerExpiry e s).lock = s.lock ∧
    (holdTimerExpiry e s).slotEntry = s.slotEntry ∧ (holdTimerExpiry e s).stationEntry = s.stationEntry ∧
    (holdTimerExpiry e s).engagedWith = s.engagedWith ∧ (holdTimerExpiry e s).lineHold = s.lineHold :=
  State.derived_congr (by simp) (by simp) (by simp)

@[simp] theorem State.zeroHalf_derived (s : State) (h : Half) :
    (s.zeroHalf h).slotHalf = s.slotHalf ∧ (s.zeroHalf h).stationHalf = s.stationHalf ∧
    (s.zeroHalf h).elementHalf = s.elementHalf ∧ (s.zeroHalf h).targets = s.targets ∧
    (s.zeroHalf h).active = s.active ∧ (s.zeroHalf h).lock = s.lock ∧ (s.zeroHalf h).slotEntry = s.slotEntry ∧
    (s.zeroHalf h).stationEntry = s.stationEntry ∧ (s.zeroHalf h).engagedWith = s.engagedWith ∧
    (s.zeroHalf h).lineHold = s.lineHold :=
  State.derived_congr (by simp) (by simp) (by simp)

@[simp] theorem State.zeroStation_derived (s : State) (n : Fin 12) :
    (s.zeroStation n).slotHalf = s.slotHalf ∧ (s.zeroStation n).stationHalf = s.stationHalf ∧
    (s.zeroStation n).elementHalf = s.elementHalf ∧ (s.zeroStation n).targets = s.targets ∧
    (s.zeroStation n).active = s.active ∧ (s.zeroStation n).lock = s.lock ∧
    (s.zeroStation n).slotEntry = s.slotEntry ∧ (s.zeroStation n).stationEntry = s.stationEntry ∧
    (s.zeroStation n).engagedWith = s.engagedWith ∧ (s.zeroStation n).lineHold = s.lineHold :=
  State.derived_congr (by simp) (by simp) (by simp)

@[simp] theorem State.zeroMatch_derived (s : State) (h : Half) :
    (s.zeroMatch h).slotHalf = s.slotHalf ∧ (s.zeroMatch h).stationHalf = s.stationHalf ∧
    (s.zeroMatch h).elementHalf = s.elementHalf ∧ (s.zeroMatch h).targets = s.targets ∧
    (s.zeroMatch h).active = s.active ∧ (s.zeroMatch h).lock = s.lock ∧ (s.zeroMatch h).slotEntry = s.slotEntry ∧
    (s.zeroMatch h).stationEntry = s.stationEntry ∧ (s.zeroMatch h).engagedWith = s.engagedWith ∧
    (s.zeroMatch h).lineHold = s.lineHold :=
  State.derived_congr (by simp) (by simp) (by simp)

@[simp] theorem State.autoOverrides_derived (s : State) (h : Half) :
    (s.autoOverrides h).slotHalf = s.slotHalf ∧ (s.autoOverrides h).stationHalf = s.stationHalf ∧
    (s.autoOverrides h).elementHalf = s.elementHalf ∧ (s.autoOverrides h).targets = s.targets ∧
    (s.autoOverrides h).active = s.active ∧ (s.autoOverrides h).lock = s.lock ∧
    (s.autoOverrides h).slotEntry = s.slotEntry ∧ (s.autoOverrides h).stationEntry = s.stationEntry ∧
    (s.autoOverrides h).engagedWith = s.engagedWith ∧ (s.autoOverrides h).lineHold = s.lineHold :=
  State.derived_congr (by simp) (by simp) (by simp)

@[simp] theorem State.endTests_derived (s : State) (h : Half) :
    (s.endTests h).slotHalf = s.slotHalf ∧ (s.endTests h).stationHalf = s.stationHalf ∧
    (s.endTests h).elementHalf = s.elementHalf ∧ (s.endTests h).targets = s.targets ∧
    (s.endTests h).active = s.active ∧ (s.endTests h).lock = s.lock ∧ (s.endTests h).slotEntry = s.slotEntry ∧
    (s.endTests h).stationEntry = s.stationEntry ∧ (s.endTests h).engagedWith = s.engagedWith ∧
    (s.endTests h).lineHold = s.lineHold :=
  State.derived_congr (by simp) (by simp) (by simp)

@[simp] theorem State.drive_derived (s : State) (n : Fin 12) (i : Fin 24) (f : ControlFrame) :
    (s.drive n i f).slotHalf = s.slotHalf ∧ (s.drive n i f).stationHalf = s.stationHalf ∧
    (s.drive n i f).elementHalf = s.elementHalf ∧ (s.drive n i f).targets = s.targets ∧
    (s.drive n i f).active = s.active ∧ (s.drive n i f).lock = s.lock ∧ (s.drive n i f).slotEntry = s.slotEntry ∧
    (s.drive n i f).stationEntry = s.stationEntry ∧ (s.drive n i f).engagedWith = s.engagedWith ∧
    (s.drive n i f).lineHold = s.lineHold :=
  State.derived_congr (by simp) (by simp) (by simp)

@[simp] theorem State.latchStation_derived (s : State) (n : Fin 12) :
    (s.latchStation n).slotHalf = s.slotHalf ∧ (s.latchStation n).stationHalf = s.stationHalf ∧
    (s.latchStation n).elementHalf = s.elementHalf ∧ (s.latchStation n).targets = s.targets ∧
    (s.latchStation n).active = s.active ∧ (s.latchStation n).lock = s.lock ∧
    (s.latchStation n).slotEntry = s.slotEntry ∧ (s.latchStation n).stationEntry = s.stationEntry ∧
    (s.latchStation n).engagedWith = s.engagedWith ∧ (s.latchStation n).lineHold = s.lineHold :=
  State.derived_congr (by simp) (by simp) (by simp)

@[simp] theorem State.silenceTimerExpiry_derived (s : State) (n : Fin 12) :
    (silenceTimerExpiry n s).slotHalf = s.slotHalf ∧ (silenceTimerExpiry n s).stationHalf = s.stationHalf ∧
    (silenceTimerExpiry n s).elementHalf = s.elementHalf ∧ (silenceTimerExpiry n s).targets = s.targets ∧
    (silenceTimerExpiry n s).active = s.active ∧ (silenceTimerExpiry n s).lock = s.lock ∧
    (silenceTimerExpiry n s).slotEntry = s.slotEntry ∧ (silenceTimerExpiry n s).stationEntry = s.stationEntry ∧
    (silenceTimerExpiry n s).engagedWith = s.engagedWith ∧ (silenceTimerExpiry n s).lineHold = s.lineHold :=
  State.derived_congr (by simp) (by simp) (by simp)

@[simp] theorem State.clearScoring_derived (s : State) (h : Half) :
    (s.clearScoring h).slotHalf = s.slotHalf ∧ (s.clearScoring h).stationHalf = s.stationHalf ∧
    (s.clearScoring h).elementHalf = s.elementHalf ∧ (s.clearScoring h).targets = s.targets ∧
    (s.clearScoring h).active = s.active ∧ (s.clearScoring h).lock = s.lock ∧
    (s.clearScoring h).slotEntry = s.slotEntry ∧ (s.clearScoring h).stationEntry = s.stationEntry ∧
    (s.clearScoring h).engagedWith = s.engagedWith ∧ (s.clearScoring h).lineHold = s.lineHold :=
  State.derived_congr (by simp) (by simp) (by simp)

@[simp] theorem State.reportEvent_derived (s : State) (e : Fin 32) (k : Fin 2) (n : Nat) (l : Level) (c : Bool) (m : Nat) :
    (s.reportEvent e k n l c m).slotHalf = s.slotHalf ∧ (s.reportEvent e k n l c m).stationHalf = s.stationHalf ∧
    (s.reportEvent e k n l c m).elementHalf = s.elementHalf ∧ (s.reportEvent e k n l c m).targets = s.targets ∧
    (s.reportEvent e k n l c m).active = s.active ∧ (s.reportEvent e k n l c m).lock = s.lock ∧
    (s.reportEvent e k n l c m).slotEntry = s.slotEntry ∧ (s.reportEvent e k n l c m).stationEntry = s.stationEntry ∧
    (s.reportEvent e k n l c m).engagedWith = s.engagedWith ∧ (s.reportEvent e k n l c m).lineHold = s.lineHold :=
  State.derived_congr (by simp) (by simp) (by simp)

@[simp] theorem State.tellEvent_derived (s : State) (e : Fin 32) (k : Fin 2) (n : Nat) :
    (s.tellEvent e k n).slotHalf = s.slotHalf ∧ (s.tellEvent e k n).stationHalf = s.stationHalf ∧
    (s.tellEvent e k n).elementHalf = s.elementHalf ∧ (s.tellEvent e k n).targets = s.targets ∧
    (s.tellEvent e k n).active = s.active ∧ (s.tellEvent e k n).lock = s.lock ∧
    (s.tellEvent e k n).slotEntry = s.slotEntry ∧ (s.tellEvent e k n).stationEntry = s.stationEntry ∧
    (s.tellEvent e k n).engagedWith = s.engagedWith ∧ (s.tellEvent e k n).lineHold = s.lineHold :=
  State.derived_congr (by simp) (by simp) (by simp)

@[simp] theorem State.creditEvents_derived (s : State) (e : Fin 32) (k : Fin 2) (n : Nat) :
    (s.creditEvents e k n).slotHalf = s.slotHalf ∧ (s.creditEvents e k n).stationHalf = s.stationHalf ∧
    (s.creditEvents e k n).elementHalf = s.elementHalf ∧ (s.creditEvents e k n).targets = s.targets ∧
    (s.creditEvents e k n).active = s.active ∧ (s.creditEvents e k n).lock = s.lock ∧
    (s.creditEvents e k n).slotEntry = s.slotEntry ∧ (s.creditEvents e k n).stationEntry = s.stationEntry ∧
    (s.creditEvents e k n).engagedWith = s.engagedWith ∧ (s.creditEvents e k n).lineHold = s.lineHold :=
  State.derived_congr (by simp) (by simp) (by simp)

@[simp] theorem State.countReading_derived (s : State) (e : Fin 32) (k : Fin 2) (l : Level) (c : BitVec 4) (r : Bool) :
    (s.countReading e k l c r).slotHalf = s.slotHalf ∧ (s.countReading e k l c r).stationHalf = s.stationHalf ∧
    (s.countReading e k l c r).elementHalf = s.elementHalf ∧ (s.countReading e k l c r).targets = s.targets ∧
    (s.countReading e k l c r).active = s.active ∧ (s.countReading e k l c r).lock = s.lock ∧
    (s.countReading e k l c r).slotEntry = s.slotEntry ∧ (s.countReading e k l c r).stationEntry = s.stationEntry ∧
    (s.countReading e k l c r).engagedWith = s.engagedWith ∧ (s.countReading e k l c r).lineHold = s.lineHold :=
  State.derived_congr (by simp) (by simp) (by simp)

@[simp] theorem State.levelReading_derived (s : State) (e : Fin 32) (k : Fin 2) (l : Level) :
    (s.levelReading e k l).slotHalf = s.slotHalf ∧ (s.levelReading e k l).stationHalf = s.stationHalf ∧
    (s.levelReading e k l).elementHalf = s.elementHalf ∧ (s.levelReading e k l).targets = s.targets ∧
    (s.levelReading e k l).active = s.active ∧ (s.levelReading e k l).lock = s.lock ∧
    (s.levelReading e k l).slotEntry = s.slotEntry ∧ (s.levelReading e k l).stationEntry = s.stationEntry ∧
    (s.levelReading e k l).engagedWith = s.engagedWith ∧ (s.levelReading e k l).lineHold = s.lineHold :=
  State.derived_congr (by simp) (by simp) (by simp)

@[simp] theorem State.reading_derived (s : State) (e : Fin 32) (k : Fin 2) (r : PollReading) :
    (s.reading e k r).slotHalf = s.slotHalf ∧ (s.reading e k r).stationHalf = s.stationHalf ∧
    (s.reading e k r).elementHalf = s.elementHalf ∧ (s.reading e k r).targets = s.targets ∧
    (s.reading e k r).active = s.active ∧ (s.reading e k r).lock = s.lock ∧
    (s.reading e k r).slotEntry = s.slotEntry ∧ (s.reading e k r).stationEntry = s.stationEntry ∧
    (s.reading e k r).engagedWith = s.engagedWith ∧ (s.reading e k r).lineHold = s.lineHold :=
  State.derived_congr (by simp) (by simp) (by simp)

@[simp] theorem State.readings_derived (s : State) (e : Fin 32) (r : PollReading) :
    (s.readings e r).slotHalf = s.slotHalf ∧ (s.readings e r).stationHalf = s.stationHalf ∧
    (s.readings e r).elementHalf = s.elementHalf ∧ (s.readings e r).targets = s.targets ∧
    (s.readings e r).active = s.active ∧ (s.readings e r).lock = s.lock ∧ (s.readings e r).slotEntry = s.slotEntry ∧
    (s.readings e r).stationEntry = s.stationEntry ∧ (s.readings e r).engagedWith = s.engagedWith ∧
    (s.readings e r).lineHold = s.lineHold :=
  State.derived_congr (by simp) (by simp) (by simp)

@[simp] theorem State.reportClock_derived (s : State) (h : Half) :
    (s.reportClock h).slotHalf = s.slotHalf ∧ (s.reportClock h).stationHalf = s.stationHalf ∧
    (s.reportClock h).elementHalf = s.elementHalf ∧ (s.reportClock h).targets = s.targets ∧
    (s.reportClock h).active = s.active ∧ (s.reportClock h).lock = s.lock ∧
    (s.reportClock h).slotEntry = s.slotEntry ∧ (s.reportClock h).stationEntry = s.stationEntry ∧
    (s.reportClock h).engagedWith = s.engagedWith ∧ (s.reportClock h).lineHold = s.lineHold :=
  State.derived_congr (by simp) (by simp) (by simp)

@[simp] theorem State.dropLinks_derived (s : State) (h : Half) :
    (s.dropLinks h).slotHalf = s.slotHalf ∧ (s.dropLinks h).stationHalf = s.stationHalf ∧
    (s.dropLinks h).elementHalf = s.elementHalf ∧ (s.dropLinks h).targets = s.targets ∧
    (s.dropLinks h).active = s.active ∧ (s.dropLinks h).lock = s.lock ∧ (s.dropLinks h).slotEntry = s.slotEntry ∧
    (s.dropLinks h).stationEntry = s.stationEntry ∧ (s.dropLinks h).engagedWith = s.engagedWith ∧
    (s.dropLinks h).lineHold = s.lineHold :=
  State.derived_congr (by simp) (by simp) (by simp)

@[simp] theorem State.releaseStations_derived (s : State) (h : Half) :
    (s.releaseStations h).slotHalf = s.slotHalf ∧ (s.releaseStations h).stationHalf = s.stationHalf ∧
    (s.releaseStations h).elementHalf = s.elementHalf ∧ (s.releaseStations h).targets = s.targets ∧
    (s.releaseStations h).active = s.active ∧ (s.releaseStations h).lock = s.lock ∧
    (s.releaseStations h).slotEntry = s.slotEntry ∧ (s.releaseStations h).stationEntry = s.stationEntry ∧
    (s.releaseStations h).engagedWith = s.engagedWith ∧ (s.releaseStations h).lineHold = s.lineHold :=
  State.derived_congr (by simp) (by simp) (by simp)

@[simp] theorem State.arm_derived (s : State) (h : Half) :
    (s.arm h).slotHalf = s.slotHalf ∧ (s.arm h).stationHalf = s.stationHalf ∧ (s.arm h).elementHalf = s.elementHalf ∧
    (s.arm h).targets = s.targets ∧ (s.arm h).active = s.active ∧ (s.arm h).lock = s.lock ∧
    (s.arm h).slotEntry = s.slotEntry ∧ (s.arm h).stationEntry = s.stationEntry ∧
    (s.arm h).engagedWith = s.engagedWith ∧ (s.arm h).lineHold = s.lineHold :=
  State.derived_congr (by simp) (by simp) (by simp)

@[simp] theorem State.turnover_derived (s : State) (h : Half) :
    (s.turnover h).slotHalf = s.slotHalf ∧ (s.turnover h).stationHalf = s.stationHalf ∧
    (s.turnover h).elementHalf = s.elementHalf ∧ (s.turnover h).targets = s.targets ∧
    (s.turnover h).engagedWith = s.engagedWith ∧ (s.turnover h).lineHold = s.lineHold :=
  State.lines_congr (by simp) (by simp)

@[simp] theorem State.autoTurnover_derived (s : State) (h : Half) :
    (s.autoTurnover h).slotHalf = s.slotHalf ∧ (s.autoTurnover h).stationHalf = s.stationHalf ∧
    (s.autoTurnover h).elementHalf = s.elementHalf ∧ (s.autoTurnover h).targets = s.targets ∧
    (s.autoTurnover h).engagedWith = s.engagedWith ∧ (s.autoTurnover h).lineHold = s.lineHold :=
  State.lines_congr (by simp) (by simp)

@[simp] theorem State.endMatch_derived (s : State) (h : Half) :
    (s.endMatch h).slotHalf = s.slotHalf ∧ (s.endMatch h).stationHalf = s.stationHalf ∧
    (s.endMatch h).elementHalf = s.elementHalf ∧ (s.endMatch h).targets = s.targets ∧
    (s.endMatch h).engagedWith = s.engagedWith ∧ (s.endMatch h).lineHold = s.lineHold :=
  State.lines_congr (by simp) (by simp)

@[simp] theorem State.enterPhase_derived (s : State) (h : Half) (j : Fin 8) :
    (s.enterPhase h j).slotHalf = s.slotHalf ∧ (s.enterPhase h j).stationHalf = s.stationHalf ∧
    (s.enterPhase h j).elementHalf = s.elementHalf ∧ (s.enterPhase h j).targets = s.targets ∧
    (s.enterPhase h j).active = s.active ∧ (s.enterPhase h j).lock = s.lock ∧
    (s.enterPhase h j).slotEntry = s.slotEntry ∧ (s.enterPhase h j).stationEntry = s.stationEntry ∧
    (s.enterPhase h j).engagedWith = s.engagedWith ∧ (s.enterPhase h j).lineHold = s.lineHold :=
  State.derived_congr (by simp) (by simp) (by simp)

@[simp] theorem State.endPhase_derived (s : State) (h : Half) :
    (s.endPhase h).slotHalf = s.slotHalf ∧ (s.endPhase h).stationHalf = s.stationHalf ∧
    (s.endPhase h).elementHalf = s.elementHalf ∧ (s.endPhase h).targets = s.targets ∧
    (s.endPhase h).engagedWith = s.engagedWith ∧ (s.endPhase h).lineHold = s.lineHold :=
  State.lines_congr (by simp) (by simp)

@[simp] theorem State.startMatch_derived (s : State) (h : Half) :
    (s.startMatch h).slotHalf = s.slotHalf ∧ (s.startMatch h).stationHalf = s.stationHalf ∧
    (s.startMatch h).elementHalf = s.elementHalf ∧ (s.startMatch h).targets = s.targets ∧
    (s.startMatch h).engagedWith = s.engagedWith ∧ (s.startMatch h).lineHold = s.lineHold :=
  State.lines_congr (by simp) (by simp)

@[simp] theorem State.changeHolds_derived (s : State) (h : Half) (f : Clock → Clock) :
    (s.changeHolds h f).slotHalf = s.slotHalf ∧ (s.changeHolds h f).stationHalf = s.stationHalf ∧
    (s.changeHolds h f).elementHalf = s.elementHalf ∧ (s.changeHolds h f).targets = s.targets ∧
    (s.changeHolds h f).active = s.active ∧ (s.changeHolds h f).lock = s.lock ∧
    (s.changeHolds h f).slotEntry = s.slotEntry ∧ (s.changeHolds h f).stationEntry = s.stationEntry ∧
    (s.changeHolds h f).engagedWith = s.engagedWith ∧ (s.changeHolds h f).lineHold = s.lineHold :=
  State.derived_congr (by simp) (by simp) (by simp)

@[simp] theorem State.deriveHold_derived (s : State) (h : Half) :
    (s.deriveHold h).slotHalf = s.slotHalf ∧ (s.deriveHold h).stationHalf = s.stationHalf ∧
    (s.deriveHold h).elementHalf = s.elementHalf ∧ (s.deriveHold h).targets = s.targets ∧
    (s.deriveHold h).active = s.active ∧ (s.deriveHold h).lock = s.lock ∧ (s.deriveHold h).slotEntry = s.slotEntry ∧
    (s.deriveHold h).stationEntry = s.stationEntry ∧ (s.deriveHold h).engagedWith = s.engagedWith ∧
    (s.deriveHold h).lineHold = s.lineHold :=
  State.derived_congr (by simp) (by simp) (by simp)

@[simp] theorem State.deriveHolds_derived (s : State) :
    (s.deriveHolds).slotHalf = s.slotHalf ∧ (s.deriveHolds).stationHalf = s.stationHalf ∧
    (s.deriveHolds).elementHalf = s.elementHalf ∧ (s.deriveHolds).targets = s.targets ∧
    (s.deriveHolds).active = s.active ∧ (s.deriveHolds).lock = s.lock ∧ (s.deriveHolds).slotEntry = s.slotEntry ∧
    (s.deriveHolds).stationEntry = s.stationEntry ∧ (s.deriveHolds).engagedWith = s.engagedWith ∧
    (s.deriveHolds).lineHold = s.lineHold :=
  State.derived_congr (by simp) (by simp) (by simp)

@[simp] theorem State.latchStop_derived (s : State) (h : Half) (src : StopSource) :
    (s.latchStop h src).slotHalf = s.slotHalf ∧ (s.latchStop h src).stationHalf = s.stationHalf ∧
    (s.latchStop h src).elementHalf = s.elementHalf ∧ (s.latchStop h src).targets = s.targets ∧
    (s.latchStop h src).active = s.active ∧ (s.latchStop h src).lock = s.lock ∧
    (s.latchStop h src).slotEntry = s.slotEntry ∧ (s.latchStop h src).stationEntry = s.stationEntry ∧
    (s.latchStop h src).engagedWith = s.engagedWith ∧ (s.latchStop h src).lineHold = s.lineHold :=
  State.derived_congr (by simp) (by simp) (by simp)

@[simp] theorem State.clearMatch_derived (s : State) (h : Half) :
    (s.clearMatch h).slotHalf = s.slotHalf ∧ (s.clearMatch h).stationHalf = s.stationHalf ∧
    (s.clearMatch h).elementHalf = s.elementHalf ∧ (s.clearMatch h).targets = s.targets ∧
    (s.clearMatch h).engagedWith = s.engagedWith ∧ (s.clearMatch h).lineHold = s.lineHold :=
  State.lines_congr (by simp) (by simp)

@[simp] theorem State.tenthEvent_derived (s : State) (h : Half) :
    (tenthEvent h s).slotHalf = s.slotHalf ∧ (tenthEvent h s).stationHalf = s.stationHalf ∧
    (tenthEvent h s).elementHalf = s.elementHalf ∧ (tenthEvent h s).targets = s.targets ∧
    (tenthEvent h s).engagedWith = s.engagedWith ∧ (tenthEvent h s).lineHold = s.lineHold :=
  State.lines_congr (by simp) (by simp)

@[simp] theorem State.phaseExpiry_derived (s : State) (h : Half) :
    (phaseExpiry h s).slotHalf = s.slotHalf ∧ (phaseExpiry h s).stationHalf = s.stationHalf ∧
    (phaseExpiry h s).elementHalf = s.elementHalf ∧ (phaseExpiry h s).targets = s.targets ∧
    (phaseExpiry h s).engagedWith = s.engagedWith ∧ (phaseExpiry h s).lineHold = s.lineHold :=
  State.lines_congr (by simp) (by simp)

@[simp] theorem State.carryStop_derived (s : State) (h : Half) (v : Bool) :
    (s.carryStop h v).slotHalf = s.slotHalf ∧ (s.carryStop h v).stationHalf = s.stationHalf ∧
    (s.carryStop h v).elementHalf = s.elementHalf ∧ (s.carryStop h v).targets = s.targets ∧
    (s.carryStop h v).active = s.active ∧ (s.carryStop h v).lock = s.lock ∧
    (s.carryStop h v).slotEntry = s.slotEntry ∧ (s.carryStop h v).stationEntry = s.stationEntry ∧
    (s.carryStop h v).engagedWith = s.engagedWith ∧ (s.carryStop h v).lineHold = s.lineHold :=
  State.derived_congr (by simp) (by simp) (by simp)

@[simp] theorem State.latchFrom_derived (s : State) (h : Half) (n : Fin 4) :
    (s.latchFrom h n).slotHalf = s.slotHalf ∧ (s.latchFrom h n).stationHalf = s.stationHalf ∧
    (s.latchFrom h n).elementHalf = s.elementHalf ∧ (s.latchFrom h n).targets = s.targets ∧
    (s.latchFrom h n).active = s.active ∧ (s.latchFrom h n).lock = s.lock ∧
    (s.latchFrom h n).slotEntry = s.slotEntry ∧ (s.latchFrom h n).stationEntry = s.stationEntry ∧
    (s.latchFrom h n).engagedWith = s.engagedWith ∧ (s.latchFrom h n).lineHold = s.lineHold :=
  State.derived_congr (by simp) (by simp) (by simp)

@[simp] theorem State.startEdge_derived (s : State) (n : Fin 4) (h : Half) :
    (s.startEdge n h).slotHalf = s.slotHalf ∧ (s.startEdge n h).stationHalf = s.stationHalf ∧
    (s.startEdge n h).elementHalf = s.elementHalf ∧ (s.startEdge n h).targets = s.targets :=
  State.halves_congr (by simp)

@[simp] theorem State.lookReady_derived (s : State) :
    (s.lookReady).slotHalf = s.slotHalf ∧ (s.lookReady).stationHalf = s.stationHalf ∧
    (s.lookReady).elementHalf = s.elementHalf ∧ (s.lookReady).targets = s.targets ∧ (s.lookReady).active = s.active ∧
    (s.lookReady).lock = s.lock ∧ (s.lookReady).slotEntry = s.slotEntry ∧
    (s.lookReady).stationEntry = s.stationEntry ∧ (s.lookReady).engagedWith = s.engagedWith ∧
    (s.lookReady).lineHold = s.lineHold :=
  State.derived_congr (by simp) (by simp) (by simp)

@[simp] theorem State.sendBeacon_derived (s : State) :
    (s.sendBeacon).slotHalf = s.slotHalf ∧ (s.sendBeacon).stationHalf = s.stationHalf ∧
    (s.sendBeacon).elementHalf = s.elementHalf ∧ (s.sendBeacon).targets = s.targets ∧
    (s.sendBeacon).active = s.active ∧ (s.sendBeacon).lock = s.lock ∧ (s.sendBeacon).slotEntry = s.slotEntry ∧
    (s.sendBeacon).stationEntry = s.stationEntry ∧ (s.sendBeacon).engagedWith = s.engagedWith ∧
    (s.sendBeacon).lineHold = s.lineHold :=
  State.derived_congr (by simp) (by simp) (by simp)

@[simp] theorem State.beginCycle_derived (s : State) (number : Byte) :
    (s.beginCycle number).slotHalf = s.slotHalf ∧ (s.beginCycle number).stationHalf = s.stationHalf ∧
    (s.beginCycle number).elementHalf = s.elementHalf ∧ (s.beginCycle number).targets = s.targets ∧
    (s.beginCycle number).active = s.active ∧ (s.beginCycle number).lock = s.lock ∧
    (s.beginCycle number).slotEntry = s.slotEntry ∧ (s.beginCycle number).stationEntry = s.stationEntry ∧
    (s.beginCycle number).engagedWith = s.engagedWith ∧ (s.beginCycle number).lineHold = s.lineHold :=
  State.derived_congr (by simp) (by simp) (by simp)

@[simp] theorem State.nextCycle_derived (s : State) :
    (s.nextCycle).slotHalf = s.slotHalf ∧ (s.nextCycle).stationHalf = s.stationHalf ∧
    (s.nextCycle).elementHalf = s.elementHalf ∧ (s.nextCycle).targets = s.targets ∧ (s.nextCycle).active = s.active ∧
    (s.nextCycle).lock = s.lock ∧ (s.nextCycle).slotEntry = s.slotEntry ∧
    (s.nextCycle).stationEntry = s.stationEntry ∧ (s.nextCycle).engagedWith = s.engagedWith ∧
    (s.nextCycle).lineHold = s.lineHold :=
  State.derived_congr (by simp) (by simp) (by simp)

@[simp] theorem State.dropBound_derived (s : State) :
    (s.dropBound).slotHalf = s.slotHalf ∧ (s.dropBound).stationHalf = s.stationHalf ∧
    (s.dropBound).elementHalf = s.elementHalf ∧ (s.dropBound).targets = s.targets ∧ (s.dropBound).active = s.active ∧
    (s.dropBound).lock = s.lock ∧ (s.dropBound).slotEntry = s.slotEntry ∧
    (s.dropBound).stationEntry = s.stationEntry ∧ (s.dropBound).engagedWith = s.engagedWith ∧
    (s.dropBound).lineHold = s.lineHold :=
  State.derived_congr (by simp) (by simp) (by simp)

@[simp] theorem State.sendDownlink_derived (s : State) (i : Fin 24) :
    (s.sendDownlink i).slotHalf = s.slotHalf ∧ (s.sendDownlink i).stationHalf = s.stationHalf ∧
    (s.sendDownlink i).elementHalf = s.elementHalf ∧ (s.sendDownlink i).targets = s.targets ∧
    (s.sendDownlink i).active = s.active ∧ (s.sendDownlink i).lock = s.lock ∧
    (s.sendDownlink i).slotEntry = s.slotEntry ∧ (s.sendDownlink i).stationEntry = s.stationEntry ∧
    (s.sendDownlink i).engagedWith = s.engagedWith ∧ (s.sendDownlink i).lineHold = s.lineHold :=
  State.derived_congr (by simp) (by simp) (by simp)

@[simp] theorem State.openWindow_derived (s : State) :
    (s.openWindow).slotHalf = s.slotHalf ∧ (s.openWindow).stationHalf = s.stationHalf ∧
    (s.openWindow).elementHalf = s.elementHalf ∧ (s.openWindow).targets = s.targets ∧
    (s.openWindow).active = s.active ∧ (s.openWindow).lock = s.lock ∧ (s.openWindow).slotEntry = s.slotEntry ∧
    (s.openWindow).stationEntry = s.stationEntry ∧ (s.openWindow).engagedWith = s.engagedWith ∧
    (s.openWindow).lineHold = s.lineHold :=
  State.derived_congr (by simp) (by simp) (by simp)

@[simp] theorem State.closeWindow_derived (s : State) :
    (s.closeWindow).slotHalf = s.slotHalf ∧ (s.closeWindow).stationHalf = s.stationHalf ∧
    (s.closeWindow).elementHalf = s.elementHalf ∧ (s.closeWindow).targets = s.targets ∧
    (s.closeWindow).active = s.active ∧ (s.closeWindow).lock = s.lock ∧ (s.closeWindow).slotEntry = s.slotEntry ∧
    (s.closeWindow).stationEntry = s.stationEntry ∧ (s.closeWindow).engagedWith = s.engagedWith ∧
    (s.closeWindow).lineHold = s.lineHold :=
  State.derived_congr (by simp) (by simp) (by simp)

@[simp] theorem State.telemetry_derived (s : State) (i : Fin 24) (v : BitVec 16) (st : Byte) (p : List Byte) :
    (s.telemetry i v st p).slotHalf = s.slotHalf ∧ (s.telemetry i v st p).stationHalf = s.stationHalf ∧
    (s.telemetry i v st p).elementHalf = s.elementHalf ∧ (s.telemetry i v st p).targets = s.targets ∧
    (s.telemetry i v st p).active = s.active ∧ (s.telemetry i v st p).lock = s.lock ∧
    (s.telemetry i v st p).slotEntry = s.slotEntry ∧ (s.telemetry i v st p).stationEntry = s.stationEntry ∧
    (s.telemetry i v st p).engagedWith = s.engagedWith ∧ (s.telemetry i v st p).lineHold = s.lineHold :=
  State.derived_congr (by simp) (by simp) (by simp)

@[simp] theorem State.countForeign_derived (s : State) :
    (s.countForeign).slotHalf = s.slotHalf ∧ (s.countForeign).stationHalf = s.stationHalf ∧
    (s.countForeign).elementHalf = s.elementHalf ∧ (s.countForeign).targets = s.targets ∧
    (s.countForeign).active = s.active ∧ (s.countForeign).lock = s.lock ∧ (s.countForeign).slotEntry = s.slotEntry ∧
    (s.countForeign).stationEntry = s.stationEntry ∧ (s.countForeign).engagedWith = s.engagedWith ∧
    (s.countForeign).lineHold = s.lineHold :=
  State.derived_congr (by simp) (by simp) (by simp)

@[simp] theorem State.takeReply_derived (s : State) (i : Fin 24) (v : BitVec 16) (st : Byte) (p : List Byte) :
    (s.takeReply i v st p).slotHalf = s.slotHalf ∧ (s.takeReply i v st p).stationHalf = s.stationHalf ∧
    (s.takeReply i v st p).elementHalf = s.elementHalf ∧ (s.takeReply i v st p).targets = s.targets ∧
    (s.takeReply i v st p).active = s.active ∧ (s.takeReply i v st p).lock = s.lock ∧
    (s.takeReply i v st p).slotEntry = s.slotEntry ∧ (s.takeReply i v st p).stationEntry = s.stationEntry ∧
    (s.takeReply i v st p).engagedWith = s.engagedWith ∧ (s.takeReply i v st p).lineHold = s.lineHold :=
  State.derived_congr (by simp) (by simp) (by simp)

@[simp] theorem State.placeAnswer_derived (s : State) (a : JoinAnswer) :
    (s.placeAnswer a).slotHalf = s.slotHalf ∧ (s.placeAnswer a).stationHalf = s.stationHalf ∧
    (s.placeAnswer a).elementHalf = s.elementHalf ∧ (s.placeAnswer a).targets = s.targets ∧
    (s.placeAnswer a).active = s.active ∧ (s.placeAnswer a).lock = s.lock ∧
    (s.placeAnswer a).slotEntry = s.slotEntry ∧ (s.placeAnswer a).stationEntry = s.stationEntry ∧
    (s.placeAnswer a).engagedWith = s.engagedWith ∧ (s.placeAnswer a).lineHold = s.lineHold :=
  State.derived_congr (by simp) (by simp) (by simp)

@[simp] theorem State.bind_derived (s : State) (i : Fin 24) (c : LinkCause) (kit : BitVec 32) (k : Byte) :
    (s.bind i c kit k).slotHalf = s.slotHalf ∧ (s.bind i c kit k).stationHalf = s.stationHalf ∧
    (s.bind i c kit k).elementHalf = s.elementHalf ∧ (s.bind i c kit k).targets = s.targets ∧
    (s.bind i c kit k).active = s.active ∧ (s.bind i c kit k).lock = s.lock ∧
    (s.bind i c kit k).slotEntry = s.slotEntry ∧ (s.bind i c kit k).stationEntry = s.stationEntry ∧
    (s.bind i c kit k).engagedWith = s.engagedWith ∧ (s.bind i c kit k).lineHold = s.lineHold :=
  State.derived_congr (by simp) (by simp) (by simp)

@[simp] theorem State.unknownJoin_derived (s : State) (kit : BitVec 32) (k : Byte) :
    (s.unknownJoin kit k).slotHalf = s.slotHalf ∧ (s.unknownJoin kit k).stationHalf = s.stationHalf ∧
    (s.unknownJoin kit k).elementHalf = s.elementHalf ∧ (s.unknownJoin kit k).targets = s.targets ∧
    (s.unknownJoin kit k).active = s.active ∧ (s.unknownJoin kit k).lock = s.lock ∧
    (s.unknownJoin kit k).slotEntry = s.slotEntry ∧ (s.unknownJoin kit k).stationEntry = s.stationEntry ∧
    (s.unknownJoin kit k).engagedWith = s.engagedWith ∧ (s.unknownJoin kit k).lineHold = s.lineHold :=
  State.derived_congr (by simp) (by simp) (by simp)

@[simp] theorem State.takeJoin_derived (s : State) (arena : Byte) (kit : BitVec 32) (k : Byte) :
    (s.takeJoin arena kit k).slotHalf = s.slotHalf ∧ (s.takeJoin arena kit k).stationHalf = s.stationHalf ∧
    (s.takeJoin arena kit k).elementHalf = s.elementHalf ∧ (s.takeJoin arena kit k).targets = s.targets ∧
    (s.takeJoin arena kit k).active = s.active ∧ (s.takeJoin arena kit k).lock = s.lock ∧
    (s.takeJoin arena kit k).slotEntry = s.slotEntry ∧ (s.takeJoin arena kit k).stationEntry = s.stationEntry ∧
    (s.takeJoin arena kit k).engagedWith = s.engagedWith ∧ (s.takeJoin arena kit k).lineHold = s.lineHold :=
  State.derived_congr (by simp) (by simp) (by simp)

@[simp] theorem State.livenessExpiry_derived (s : State) (i : Fin 24) :
    (livenessExpiry i s).slotHalf = s.slotHalf ∧ (livenessExpiry i s).stationHalf = s.stationHalf ∧
    (livenessExpiry i s).elementHalf = s.elementHalf ∧ (livenessExpiry i s).targets = s.targets ∧
    (livenessExpiry i s).active = s.active ∧ (livenessExpiry i s).lock = s.lock ∧
    (livenessExpiry i s).slotEntry = s.slotEntry ∧ (livenessExpiry i s).stationEntry = s.stationEntry ∧
    (livenessExpiry i s).engagedWith = s.engagedWith ∧ (livenessExpiry i s).lineHold = s.lineHold :=
  State.derived_congr (by simp) (by simp) (by simp)

@[simp] theorem State.replyReceived_derived (s : State) (arena slot : Byte) (kit : BitVec 32) (v : BitVec 16) (st : Byte) (p : List Byte) :
    (replyReceived arena slot kit v st p s).slotHalf = s.slotHalf ∧
    (replyReceived arena slot kit v st p s).stationHalf = s.stationHalf ∧
    (replyReceived arena slot kit v st p s).elementHalf = s.elementHalf ∧
    (replyReceived arena slot kit v st p s).targets = s.targets ∧
    (replyReceived arena slot kit v st p s).active = s.active ∧
    (replyReceived arena slot kit v st p s).lock = s.lock ∧
    (replyReceived arena slot kit v st p s).slotEntry = s.slotEntry ∧
    (replyReceived arena slot kit v st p s).stationEntry = s.stationEntry ∧
    (replyReceived arena slot kit v st p s).engagedWith = s.engagedWith ∧
    (replyReceived arena slot kit v st p s).lineHold = s.lineHold :=
  State.derived_congr (by simp) (by simp) (by simp)

@[simp] theorem State.joinReceived_derived (s : State) (arena : Byte) (kit : BitVec 32) (k : Byte) :
    (joinReceived arena kit k s).slotHalf = s.slotHalf ∧ (joinReceived arena kit k s).stationHalf = s.stationHalf ∧
    (joinReceived arena kit k s).elementHalf = s.elementHalf ∧ (joinReceived arena kit k s).targets = s.targets ∧
    (joinReceived arena kit k s).active = s.active ∧ (joinReceived arena kit k s).lock = s.lock ∧
    (joinReceived arena kit k s).slotEntry = s.slotEntry ∧
    (joinReceived arena kit k s).stationEntry = s.stationEntry ∧
    (joinReceived arena kit k s).engagedWith = s.engagedWith ∧ (joinReceived arena kit k s).lineHold = s.lineHold :=
  State.derived_congr (by simp) (by simp) (by simp)

@[simp] theorem State.storeElement_derived (s : State) (e : Fin 32) (x : ElementEntry) :
    (s.storeElement e x).slotHalf = s.slotHalf ∧ (s.storeElement e x).stationHalf = s.stationHalf ∧
    (s.storeElement e x).elementHalf = s.elementHalf ∧ (s.storeElement e x).targets = s.targets ∧
    (s.storeElement e x).active = s.active ∧ (s.storeElement e x).lock = s.lock ∧
    (s.storeElement e x).slotEntry = s.slotEntry ∧ (s.storeElement e x).stationEntry = s.stationEntry ∧
    (s.storeElement e x).engagedWith = s.engagedWith ∧ (s.storeElement e x).lineHold = s.lineHold :=
  State.derived_congr (by simp) (by simp) (by simp)

@[simp] theorem State.startSweep_derived (s : State) :
    (s.startSweep).slotHalf = s.slotHalf ∧ (s.startSweep).stationHalf = s.stationHalf ∧
    (s.startSweep).elementHalf = s.elementHalf ∧ (s.startSweep).targets = s.targets ∧
    (s.startSweep).active = s.active ∧ (s.startSweep).lock = s.lock ∧ (s.startSweep).slotEntry = s.slotEntry ∧
    (s.startSweep).stationEntry = s.stationEntry ∧ (s.startSweep).engagedWith = s.engagedWith ∧
    (s.startSweep).lineHold = s.lineHold :=
  State.derived_congr (by simp) (by simp) (by simp)

@[simp] theorem State.endSweep_derived (s : State) :
    (s.endSweep).slotHalf = s.slotHalf ∧ (s.endSweep).stationHalf = s.stationHalf ∧
    (s.endSweep).elementHalf = s.elementHalf ∧ (s.endSweep).targets = s.targets ∧ (s.endSweep).active = s.active ∧
    (s.endSweep).lock = s.lock ∧ (s.endSweep).slotEntry = s.slotEntry ∧ (s.endSweep).stationEntry = s.stationEntry ∧
    (s.endSweep).engagedWith = s.engagedWith ∧ (s.endSweep).lineHold = s.lineHold :=
  State.derived_congr (by simp) (by simp) (by simp)

@[simp] theorem State.checkSweep_derived (s : State) :
    (s.checkSweep).slotHalf = s.slotHalf ∧ (s.checkSweep).stationHalf = s.stationHalf ∧
    (s.checkSweep).elementHalf = s.elementHalf ∧ (s.checkSweep).targets = s.targets ∧
    (s.checkSweep).active = s.active ∧ (s.checkSweep).lock = s.lock ∧ (s.checkSweep).slotEntry = s.slotEntry ∧
    (s.checkSweep).stationEntry = s.stationEntry ∧ (s.checkSweep).engagedWith = s.engagedWith ∧
    (s.checkSweep).lineHold = s.lineHold :=
  State.derived_congr (by simp) (by simp) (by simp)

@[simp] theorem State.applyMode_derived (s : State) :
    (s.applyMode).slotHalf = s.slotHalf ∧ (s.applyMode).stationHalf = s.stationHalf ∧
    (s.applyMode).elementHalf = s.elementHalf ∧ (s.applyMode).targets = s.targets ∧ (s.applyMode).active = s.active ∧
    (s.applyMode).lock = s.lock ∧ (s.applyMode).slotEntry = s.slotEntry ∧
    (s.applyMode).stationEntry = s.stationEntry ∧ (s.applyMode).engagedWith = s.engagedWith ∧
    (s.applyMode).lineHold = s.lineHold :=
  State.derived_congr (by simp) (by simp) (by simp)

@[simp] theorem State.beginPoll_derived (s : State) (e : Fin 32) :
    (s.beginPoll e).slotHalf = s.slotHalf ∧ (s.beginPoll e).stationHalf = s.stationHalf ∧
    (s.beginPoll e).elementHalf = s.elementHalf ∧ (s.beginPoll e).targets = s.targets ∧
    (s.beginPoll e).active = s.active ∧ (s.beginPoll e).lock = s.lock ∧ (s.beginPoll e).slotEntry = s.slotEntry ∧
    (s.beginPoll e).stationEntry = s.stationEntry ∧ (s.beginPoll e).engagedWith = s.engagedWith ∧
    (s.beginPoll e).lineHold = s.lineHold :=
  State.derived_congr (by simp) (by simp) (by simp)

@[simp] theorem State.goodAnswer_derived (s : State) (e : Fin 32) (r : PollReading) :
    (s.goodAnswer e r).slotHalf = s.slotHalf ∧ (s.goodAnswer e r).stationHalf = s.stationHalf ∧
    (s.goodAnswer e r).elementHalf = s.elementHalf ∧ (s.goodAnswer e r).targets = s.targets ∧
    (s.goodAnswer e r).active = s.active ∧ (s.goodAnswer e r).lock = s.lock ∧
    (s.goodAnswer e r).slotEntry = s.slotEntry ∧ (s.goodAnswer e r).stationEntry = s.stationEntry ∧
    (s.goodAnswer e r).engagedWith = s.engagedWith ∧ (s.goodAnswer e r).lineHold = s.lineHold :=
  State.derived_congr (by simp) (by simp) (by simp)

@[simp] theorem State.missedPoll_derived (s : State) (e : Fin 32) :
    (s.missedPoll e).slotHalf = s.slotHalf ∧ (s.missedPoll e).stationHalf = s.stationHalf ∧
    (s.missedPoll e).elementHalf = s.elementHalf ∧ (s.missedPoll e).targets = s.targets ∧
    (s.missedPoll e).active = s.active ∧ (s.missedPoll e).lock = s.lock ∧ (s.missedPoll e).slotEntry = s.slotEntry ∧
    (s.missedPoll e).stationEntry = s.stationEntry ∧ (s.missedPoll e).engagedWith = s.engagedWith ∧
    (s.missedPoll e).lineHold = s.lineHold :=
  State.derived_congr (by simp) (by simp) (by simp)

@[simp] theorem State.badAnswer_derived (s : State) :
    (s.badAnswer).slotHalf = s.slotHalf ∧ (s.badAnswer).stationHalf = s.stationHalf ∧
    (s.badAnswer).elementHalf = s.elementHalf ∧ (s.badAnswer).targets = s.targets ∧ (s.badAnswer).active = s.active ∧
    (s.badAnswer).lock = s.lock ∧ (s.badAnswer).slotEntry = s.slotEntry ∧
    (s.badAnswer).stationEntry = s.stationEntry ∧ (s.badAnswer).engagedWith = s.engagedWith ∧
    (s.badAnswer).lineHold = s.lineHold :=
  State.derived_congr (by simp) (by simp) (by simp)

@[simp] theorem State.judgeAnswer_derived (s : State) (e : Fin 32) (a : Option BusFrame) :
    (s.judgeAnswer e a).slotHalf = s.slotHalf ∧ (s.judgeAnswer e a).stationHalf = s.stationHalf ∧
    (s.judgeAnswer e a).elementHalf = s.elementHalf ∧ (s.judgeAnswer e a).targets = s.targets ∧
    (s.judgeAnswer e a).active = s.active ∧ (s.judgeAnswer e a).lock = s.lock ∧
    (s.judgeAnswer e a).slotEntry = s.slotEntry ∧ (s.judgeAnswer e a).stationEntry = s.stationEntry ∧
    (s.judgeAnswer e a).engagedWith = s.engagedWith ∧ (s.judgeAnswer e a).lineHold = s.lineHold :=
  State.derived_congr (by simp) (by simp) (by simp)

@[simp] theorem State.freeBus_derived (s : State) :
    (s.freeBus).slotHalf = s.slotHalf ∧ (s.freeBus).stationHalf = s.stationHalf ∧
    (s.freeBus).elementHalf = s.elementHalf ∧ (s.freeBus).targets = s.targets ∧ (s.freeBus).active = s.active ∧
    (s.freeBus).lock = s.lock ∧ (s.freeBus).slotEntry = s.slotEntry ∧ (s.freeBus).stationEntry = s.stationEntry ∧
    (s.freeBus).engagedWith = s.engagedWith ∧ (s.freeBus).lineHold = s.lineHold :=
  State.derived_congr (by simp) (by simp) (by simp)

@[simp] theorem State.judgePassEnd_derived (s : State) (tag address expected : Byte) (a : Option BusFrame) :
    (s.judgePassEnd tag address expected a).slotHalf = s.slotHalf ∧
    (s.judgePassEnd tag address expected a).stationHalf = s.stationHalf ∧
    (s.judgePassEnd tag address expected a).elementHalf = s.elementHalf ∧
    (s.judgePassEnd tag address expected a).targets = s.targets ∧
    (s.judgePassEnd tag address expected a).active = s.active ∧
    (s.judgePassEnd tag address expected a).lock = s.lock ∧
    (s.judgePassEnd tag address expected a).slotEntry = s.slotEntry ∧
    (s.judgePassEnd tag address expected a).stationEntry = s.stationEntry ∧
    (s.judgePassEnd tag address expected a).engagedWith = s.engagedWith ∧
    (s.judgePassEnd tag address expected a).lineHold = s.lineHold :=
  State.derived_congr (by simp) (by simp) (by simp)

@[simp] theorem State.endPass_derived (s : State) (a : Option BusFrame) :
    (s.endPass a).slotHalf = s.slotHalf ∧ (s.endPass a).stationHalf = s.stationHalf ∧
    (s.endPass a).elementHalf = s.elementHalf ∧ (s.endPass a).targets = s.targets ∧ (s.endPass a).active = s.active ∧
    (s.endPass a).lock = s.lock ∧ (s.endPass a).slotEntry = s.slotEntry ∧
    (s.endPass a).stationEntry = s.stationEntry ∧ (s.endPass a).engagedWith = s.engagedWith ∧
    (s.endPass a).lineHold = s.lineHold :=
  State.derived_congr (by simp) (by simp) (by simp)

@[simp] theorem State.busResetWaitEnd_derived (s : State) :
    (busResetWaitEnd s).slotHalf = s.slotHalf ∧ (busResetWaitEnd s).stationHalf = s.stationHalf ∧
    (busResetWaitEnd s).elementHalf = s.elementHalf ∧ (busResetWaitEnd s).targets = s.targets ∧
    (busResetWaitEnd s).active = s.active ∧ (busResetWaitEnd s).lock = s.lock ∧
    (busResetWaitEnd s).slotEntry = s.slotEntry ∧ (busResetWaitEnd s).stationEntry = s.stationEntry ∧
    (busResetWaitEnd s).engagedWith = s.engagedWith ∧ (busResetWaitEnd s).lineHold = s.lineHold :=
  State.derived_congr (by simp) (by simp) (by simp)

@[simp] theorem State.sweepStart_derived (s : State) :
    (sweepStart s).slotHalf = s.slotHalf ∧ (sweepStart s).stationHalf = s.stationHalf ∧
    (sweepStart s).elementHalf = s.elementHalf ∧ (sweepStart s).targets = s.targets ∧
    (sweepStart s).active = s.active ∧ (sweepStart s).lock = s.lock ∧ (sweepStart s).slotEntry = s.slotEntry ∧
    (sweepStart s).stationEntry = s.stationEntry ∧ (sweepStart s).engagedWith = s.engagedWith ∧
    (sweepStart s).lineHold = s.lineHold :=
  State.derived_congr (by simp) (by simp) (by simp)

@[simp] theorem State.takeFrame_derived (s : State) (n : Fin 12) :
    (s.takeFrame n).slotHalf = s.slotHalf ∧ (s.takeFrame n).stationHalf = s.stationHalf ∧
    (s.takeFrame n).elementHalf = s.elementHalf ∧ (s.takeFrame n).targets = s.targets ∧
    (s.takeFrame n).active = s.active ∧ (s.takeFrame n).lock = s.lock ∧ (s.takeFrame n).slotEntry = s.slotEntry ∧
    (s.takeFrame n).stationEntry = s.stationEntry ∧ (s.takeFrame n).engagedWith = s.engagedWith ∧
    (s.takeFrame n).lineHold = s.lineHold :=
  State.derived_congr (by simp) (by simp) (by simp)

@[simp] theorem State.control_derived (s : State) (n : Fin 12) (f : ControlFrame) :
    (s.control n f).slotHalf = s.slotHalf ∧ (s.control n f).stationHalf = s.stationHalf ∧
    (s.control n f).elementHalf = s.elementHalf ∧ (s.control n f).targets = s.targets ∧
    (s.control n f).active = s.active ∧ (s.control n f).lock = s.lock ∧ (s.control n f).slotEntry = s.slotEntry ∧
    (s.control n f).stationEntry = s.stationEntry ∧ (s.control n f).engagedWith = s.engagedWith ∧
    (s.control n f).lineHold = s.lineHold :=
  State.derived_congr (by simp) (by simp) (by simp)

@[simp] theorem State.counted_derived (s : State) :
    (s.counted).slotHalf = s.slotHalf ∧ (s.counted).stationHalf = s.stationHalf ∧
    (s.counted).elementHalf = s.elementHalf ∧ (s.counted).targets = s.targets ∧ (s.counted).active = s.active ∧
    (s.counted).lock = s.lock ∧ (s.counted).slotEntry = s.slotEntry ∧ (s.counted).stationEntry = s.stationEntry ∧
    (s.counted).engagedWith = s.engagedWith ∧ (s.counted).lineHold = s.lineHold :=
  State.derived_congr (by simp) (by simp) (by simp)

@[simp] theorem State.replied_derived (s : State) (tag : Byte) (code : ResultCode) :
    (s.replied tag code).slotHalf = s.slotHalf ∧ (s.replied tag code).stationHalf = s.stationHalf ∧
    (s.replied tag code).elementHalf = s.elementHalf ∧ (s.replied tag code).targets = s.targets ∧
    (s.replied tag code).active = s.active ∧ (s.replied tag code).lock = s.lock ∧
    (s.replied tag code).slotEntry = s.slotEntry ∧ (s.replied tag code).stationEntry = s.stationEntry ∧
    (s.replied tag code).engagedWith = s.engagedWith ∧ (s.replied tag code).lineHold = s.lineHold :=
  State.derived_congr (by simp) (by simp) (by simp)

end Sys2Proof.Machine
end

