-- ==== Sys2Proof/Laws/Claims.lean ====
section
/-! SUPPORT. What the shared operations of the claim unit do to the claims, one element at a time. -/

namespace Sys2Proof.Machine

/-- A pass over different places that changes, at each place, only the cell of that place, changes every cell it visits once. -/
theorem foldl_cell {ι α : Type} [DecidableEq ι] (cell : State → ι → α) (f : State → ι → State) (change : ι → α → α)
    (inv : State → Prop) (hi : ∀ t x, inv t → inv (f t x))
    (hf : ∀ t x y, inv t → cell (f t x) y = if x = y then change x (cell t x) else cell t y) :
    ∀ (l : List ι) (s : State) (y : ι), l.Nodup → inv s →
      cell (l.foldl f s) y = if y ∈ l then change y (cell s y) else cell s y
  | [], _, _, _, _ => rfl
  | x :: l, s, y, hl, hs => by
    rw [List.nodup_cons] at hl
    rw [List.foldl_cons, foldl_cell cell f change inv hi hf l (f s x) y hl.2 (hi s x hs), hf s x y hs]
    by_cases hy : y = x
    · subst hy; simp [hl.1]
    · simp [hy, Ne.symm hy]

theorem foldl_inv {ι : Type} (inv : State → Prop) (f : State → ι → State) (hf : ∀ t x, inv t → inv (f t x)) :
    ∀ (l : List ι) (s : State), inv s → inv (l.foldl f s)
  | [], _, hs => hs
  | x :: l, s, hs => foldl_inv inv f hf l (f s x) (hf s x hs)

theorem mem_allElements (e : Fin 32) : e ∈ allElements := List.mem_finRange e

theorem nodup_allElements : allElements.Nodup := List.nodup_finRange 32

/-! ## Promotion and flushes (R143, R146 to R150) -/

/-- R146: the claim after a flush. -/
def Claim.flushed (c : Claim) : Claim := if c.holder = none ∧ c.waiters = [] then c else .empty

@[simp] theorem Claim.flushed_holder (c : Claim) : c.flushed.holder = none := by
  simp only [Claim.flushed]; split <;> simp_all [Claim.empty]

@[simp] theorem Claim.flushed_waiters (c : Claim) : c.flushed.waiters = [] := by
  simp only [Claim.flushed]; split <;> simp_all [Claim.empty]

theorem State.promote_claims (s : State) (e : Fin 32) :
    (s.promote e).claims = s.claims.set e ((s.claims.get e).promoted (s.entries.get e).holdLimit) := by
  simp only [State.promote, Claim.promoted]
  cases hw : (s.claims.get e).waiters <;> simp [State.grant, Tab.modify, loadTimer]

theorem State.expireHold_claims (s : State) (e : Fin 32) (n : Fin 12) (h : (s.claims.get e).holder = some n) :
    (s.expireHold e).claims = s.claims.set e ((s.claims.get e).promoted (s.entries.get e).holdLimit) := by
  simp only [State.expireHold, h]
  rw [State.promote_claims]
  simp

theorem State.flush_claims (s : State) (r : ClaimReason) (e : Fin 32) :
    (s.flush r e).claims = s.claims.set e (s.claims.get e).flushed := by
  simp only [State.flush, Claim.flushed]
  split
  · exact Tab.ext fun i => by rw [Tab.get_set]; split <;> simp_all
  · rw [foldl_keeps State.claims _ (fun t x => by simp)]
    split <;> simp [Tab.modify]

/-- A flush of the elements that a fixed test picks flushes exactly their claims. -/
theorem State.flushEach_claims (s : State) (r : ClaimReason) (picked : Fin 32 → Bool) (e : Fin 32) :
    (allElements.foldl (fun t x => if picked x = true then t.flush r x else t) s).claims.get e
      = if picked e = true then (s.claims.get e).flushed else s.claims.get e := by
  rw [foldl_cell (fun t e => t.claims.get e) _ (fun e c => if picked e = true then c.flushed else c) (fun _ => True)
    (fun _ _ _ => trivial) (fun t x y _ => ?_) allElements s e nodup_allElements trivial, if_pos (mem_allElements e)]
  by_cases hp : picked x = true
  · simp only [hp, if_true, State.flush_claims, Tab.get_set]
  · simp only [hp, if_false, Bool.false_eq_true]; split <;> simp_all

/-- R148: the claims of a half after its field stop latched. -/
theorem State.flushStopped_claims (s : State) (h : Half) (e : Fin 32) :
    (s.flushStopped h).claims.get e = if s.sharedIn h e = true then (s.claims.get e).flushed else s.claims.get e :=
  s.flushEach_claims .stopped (s.sharedIn h) e

/-- R148: the claims of a half after a phase boundary. -/
theorem State.flushPhase_claims (s : State) (h : Half) (kind : PhaseKind) (p : Profile) (e : Fin 32) :
    (s.flushPhase h kind p).claims.get e =
      if (s.sharedIn h e && (!phaseBit (s.entries.get e).mask kind || !p.elementAdmit)) = true then (s.claims.get e).flushed
      else s.claims.get e :=
  s.flushEach_claims .phase (fun e => s.sharedIn h e && (!phaseBit (s.entries.get e).mask kind || !p.elementAdmit)) e

@[simp] theorem State.flushSilent_claims (s : State) (h : Half) (e : Fin 32) :
    (s.flushSilent h).claims.get e = if s.elementHalf e = h then Claim.empty else s.claims.get e := by
  simp [State.flushSilent]

/-! ## Stopped stations (R147) -/

/-- R147: the claim after a station is stopped. -/
def Claim.without (limit : Nat) (n : Fin 12) (c : Claim) : Claim :=
  if c.holder = some n then c.promoted limit
  else if n ∈ c.waiters then { c with waiters := c.waiters.filter (· ≠ n) } else c

theorem State.dropStation_claims (s : State) (n : Fin 12) (e : Fin 32) :
    (s.dropStation n e).claims = s.claims.set e ((s.claims.get e).without (s.entries.get e).holdLimit n) := by
  simp only [State.dropStation, Claim.without]
  split
  · rw [State.promote_claims]; simp
  · split
    · simp [Tab.modify]
    · exact Tab.ext fun i => by rw [Tab.get_set]; split <;> simp_all

/-- R147: every claim after a station is stopped. -/
theorem State.dropClaims_claims (s : State) (n : Fin 12) (e : Fin 32) :
    (s.dropClaims n).claims.get e = (s.claims.get e).without (s.entries.get e).holdLimit n := by
  rw [State.dropClaims, foldl_cell (fun t e => t.claims.get e) _ (fun e c => c.without (s.entries.get e).holdLimit n)
    (fun t => t.entries = s.entries) (fun t x ht => by simp [ht])
    (fun t x y ht => by simp only [State.dropStation_claims, Tab.get_set, ht]) allElements s e nodup_allElements rfl,
    if_pos (mem_allElements e)]

/-- R147: a stopped station that did not hold and wait at once neither holds nor waits. -/
theorem Claim.without_free {limit : Nat} {n : Fin 12} {c : Claim} (h : c.holder = some n → n ∉ c.waiters) :
    (c.without limit n).holder ≠ some n ∧ n ∉ (c.without limit n).waiters := by
  simp only [Claim.without]
  by_cases hh : c.holder = some n
  · have hw := h hh
    rw [if_pos hh, Claim.promoted]
    cases e : c.waiters with
    | nil => simp [Claim.empty]
    | cons w rest =>
      rw [e, List.mem_cons, not_or] at hw
      simp [hw.2, Ne.symm hw.1]
  · rw [if_neg hh]
    split <;> simp_all

/-! ## Tenths (R144, R145) -/

theorem State.accrue_claims (s : State) (h : Half) (e : Fin 32) :
    ∃ n, (s.accrue h e).claims = s.claims.set e { s.claims.get e with accumulator := n } := by
  have hs : s.claims = s.claims.set e { s.claims.get e with accumulator := (s.claims.get e).accumulator } :=
    Tab.ext fun i => by rw [Tab.get_set]; split <;> simp_all
  simp only [State.accrue]
  split
  · exact ⟨_, hs⟩
  · split
    · exact ⟨_, hs⟩
    · split
      · exact ⟨_, rfl⟩
      · split
        · exact ⟨(s.claims.get e).accumulator + 1 - 10, by simp [Tab.modify]⟩
        · exact ⟨_, rfl⟩

/-- R144: at a tenth of its clock, a running hold timer with more than one tenth left counts down by 1, and the holder stays. -/
theorem State.claimTenth_counts (s : State) (h : Half) (e x : Fin 32) :
    (x ≠ e → (s.claimTenth h x).claims.get e = s.claims.get e) ∧
    ∀ left, s.sharedIn h e = true → (s.claims.get e).timer = some left → 2 ≤ left →
      ((s.claimTenth h e).claims.get e).timer = some (left - 1) ∧
      ((s.claimTenth h e).claims.get e).holder = (s.claims.get e).holder := by
  obtain ⟨n, ha⟩ := s.accrue_claims h x
  obtain ⟨m, hb⟩ := s.accrue_claims h e
  constructor
  · intro hx
    simp only [State.claimTenth, State.countHold]
    split
    · split
      · simp [ha, Tab.get_set, hx]
      · split
        · simp only [State.expireHold]
          split
          · rw [State.promote_claims]; simp [ha, Tab.get_set, hx]
          · simp [ha, Tab.get_set, hx]
        · simp [ha, Tab.get_set, hx, Tab.modify]
    · rfl
  · intro left hs ht hl
    have h1 : ¬ left ≤ 1 := by omega
    simp [State.claimTenth, State.countHold, hs, hb, ht, h1]

end Sys2Proof.Machine
end

