-- ==== Sys2Proof/Laws/Clocks.lean ====
section
/-! SUPPORT. What the shared operations of the match clocks do: phases found, hold causes changed, phases entered and ended. -/

namespace Sys2Proof.Machine

/-! ## Phases (R36) -/

/-- R36: the search for a phase finds exactly the entry that becomes the phase in force. -/
theorem firstPhase_eq_some {schedule : Tab 8 PhaseEntry} {j : Fin 8} :
    ∀ (fuel start : Nat), 8 ≤ fuel + start → NextPhase schedule start j → firstPhase schedule fuel start = some j
  | 0, start, hf, hn => absurd hn.1 (by omega)
  | fuel + 1, start, hf, hn => by
    have hs : start < 8 := Nat.lt_of_le_of_lt hn.1 j.isLt
    rw [firstPhase, dif_pos hs]
    by_cases he : start = j.val
    · subst he
      simp [hn.2.1, hn.2.2.1]
    · have h := hn.2.2.2 ⟨start, hs⟩ (Nat.le_refl _) (Fin.lt_def.mpr (Nat.lt_of_le_of_ne hn.1 he))
      simp only [h.1, h.2, if_false, if_true]
      exact firstPhase_eq_some fuel (start + 1) (by omega)
        ⟨Nat.lt_of_le_of_ne hn.1 he, hn.2.1, hn.2.2.1, fun i hi => hn.2.2.2 i (by omega)⟩

/-- What the search answers is the phase in force. -/
theorem firstPhase_sound {schedule : Tab 8 PhaseEntry} {j : Fin 8} :
    ∀ (fuel start : Nat), firstPhase schedule fuel start = some j → NextPhase schedule start j
  | 0, _, h => by simp [firstPhase] at h
  | fuel + 1, start, h => by
    rw [firstPhase] at h
    split at h
    case isFalse => cases h
    case isTrue hs =>
      simp only at h
      split at h
      · cases h
      case isFalse hk =>
        split at h
        case isTrue hd =>
          have n := firstPhase_sound fuel (start + 1) h
          refine ⟨Nat.le_of_succ_le n.1, n.2.1, n.2.2.1, fun i hi hij => ?_⟩
          by_cases he : start = i.val
          · subst he; exact ⟨hk, hd⟩
          · exact n.2.2.2 i (by omega) hij
        case isFalse hd =>
          cases h
          refine ⟨Nat.le_refl _, hk, hd, fun i hi hij => ?_⟩
          rw [Fin.lt_def] at hij
          simp only at hij
          omega

/-- R36: with no phase left, the search finds none. -/
theorem firstPhase_eq_none {schedule : Tab 8 PhaseEntry} {start : Nat} (h : NoPhase schedule start) (fuel : Nat) :
    firstPhase schedule fuel start = none := by
  cases e : firstPhase schedule fuel start with
  | none => rfl
  | some j => exact absurd (firstPhase_sound fuel start e) (h j)

/-! ## Hold causes (R25, R26) -/

theorem PerHalf.modify_self {α : Type} (p : PerHalf α) (h : Half) (x : α) (e : p.get h = x) : (p.modify h fun _ => x) = p := by
  cases h <;> cases p <;> simp_all [PerHalf.modify, PerHalf.set, PerHalf.get]

theorem State.setClock_self (s : State) (h : Half) (c : Clock) (e : s.clocks.get h = c) : (s.setClock h fun _ => c) = s := by
  simp [State.setClock, PerHalf.modify_self _ _ _ e]

/-- The clock after a change of hold causes: the change, settled (R26); the other clock stays. -/
@[simp] theorem State.changeHolds_clocks (s : State) (h : Half) (f : Clock → Clock) :
    (s.changeHolds h f).clocks = s.clocks.modify h fun c => (f c).settle := by
  simp only [State.changeHolds]
  split <;> simp [State.setClock, PerHalf.modify]

/-- A change of hold causes that leaves a settled clock as it was changes nothing. -/
theorem State.changeHolds_same (s : State) (h : Half) (f : Clock → Clock) (e : (f (s.clocks.get h)).settle = s.clocks.get h) :
    s.changeHolds h f = s := by
  simp only [State.changeHolds, e, and_self, if_true]
  exact s.setClock_self h _ rfl

/-- R26: settling keeps everything but the state. -/
theorem Clock.settle_eq (c : Clock) : c.settle = { c with state := c.settle.state } := rfl

/-- R26: a settled clock settles to itself. -/
theorem Clock.settle_of_settled {c : Clock} (h : c.Settled) : c.settle = c := by
  rcases c with ⟨st, ph, re, el, tp, ch, lh, sh, fs⟩
  cases st <;> simp_all [Clock.settle, Clock.Settled, ClockState.started]

/-- R42: after the line holds are derived, each clock's line hold is what the engaged lines give it. -/
@[simp] theorem State.deriveHolds_clocks (s : State) (h : Half) :
    (s.deriveHolds).clocks.get h = ({ s.clocks.get h with lineHold := s.lineHold h } : Clock).settle := by
  cases h <;> simp [State.deriveHolds, State.deriveHold, State.lineHold, State.engagedWith, State.targets, PerHalf.modify, PerHalf.set, PerHalf.get]

/-! ## The lock, and the end of a match (R14, R15, R36) -/

/-- R14: the lock is a matter of the tables alone. -/
theorem State.lock_congr {s t : State} (e : t.tables = s.tables) (h : Half) : t.lock h = s.lock h := by
  simp [State.lock, State.lockCore, State.missingSlots, State.missingStations, e]

/-- R15: whether the match of a clock that comes to rest is turned over at once. -/
def State.turnsOver (s : State) (h : Half) : Bool := s.lock h && (s.tables.get h).pending.header.autoTurnover

theorem State.turnsOver_congr {s t : State} (e : t.tables = s.tables) (h : Half) : t.turnsOver h = s.turnsOver h := by
  simp [State.turnsOver, State.lock_congr e, e]

/-- R36: the state at the entry to ENDED, before R15. -/
def State.matchEnded (s : State) (h : Half) : State :=
  let ended := s.setClock h fun c =>
    { c with state := .ended, remaining := 0, commandHold := false, stopHold := false, lineHold := s.lineHold h }
  ((ended.reportClock h).zeroHalf h).flushSilent h

/-- R36, R15: a match ends, and a waiting match with automatic turnover takes its place. -/
theorem State.endMatch_eq (s : State) (h : Half) :
    s.endMatch h = if s.turnsOver h then (s.matchEnded h).turnover h else s.matchEnded h := by
  have e : (s.matchEnded h).tables = s.tables := by simp [State.matchEnded]
  have c : ((s.matchEnded h).clocks.get h).state = .ended := by simp [State.matchEnded]
  rw [← State.turnsOver_congr e]
  show (s.matchEnded h).autoTurnover h = _
  simp [State.autoTurnover, State.turnsOver, c]

end Sys2Proof.Machine
end

