-- ==== Sys2Proof/Laws/Operands.lean ====
section
/-! SUPPORT. Codes read back: what chapter 11 encodes is what it decodes; multi-byte fields; indices; ranges. -/

namespace Sys2Proof.Machine

@[simp] theorem decodeYN_code (x : Bool) : decodeYN (codeYN x) = some x := by cases x <;> rfl
@[simp] theorem decodeHalf_code (x : Half) : decodeHalf (codeHalf x) = some x := by cases x <;> rfl
@[simp] theorem decodeAlliance_code (x : Alliance) : decodeAlliance (codeAlliance (some x)) = some x := by cases x <;> rfl
@[simp] theorem decodeCredit_code (x : Option Alliance) : decodeCredit (codeAlliance x) = some x := by
  cases x with
  | none => rfl
  | some y => cases y <;> rfl
@[simp] theorem decodePhaseKind_code (x : PhaseKind) : decodePhaseKind (codePhaseKind x) = some x := by cases x <;> rfl
@[simp] theorem decodeOwner_code (x : Owner) : decodeOwner (codeOwner x) = some x := by cases x <;> rfl
@[simp] theorem decodeSensorMode_code (x : SensorMode) : decodeSensorMode (codeSensorMode x) = some x := by cases x <;> rfl
@[simp] theorem decodeOutputMode_code (x : OutputMode) : decodeOutputMode (codeOutputMode x) = some x := by cases x <;> rfl
@[simp] theorem decodeLineAction_code (x : LineAction) : decodeLineAction (codeLineAction x) = some x := by cases x <;> rfl
@[simp] theorem decodeLineTarget_code (x : LineTarget) : decodeLineTarget (codeLineTarget x) = some x := by cases x <;> rfl
@[simp] theorem decodeAirRate_code (x : AirRate) : decodeAirRate (codeAirRate x) = some x := by cases x <;> rfl
@[simp] theorem decodeBusMode_code (x : BusMode) : decodeBusMode (codeBusMode x) = some x := by cases x <;> rfl
@[simp] theorem decodeOverride_code (x : Override) : decodeOverride (codeOverride x) = some x := by cases x <;> rfl
@[simp] theorem decodeTable_code (x : ReadTable) : decodeTable x.code = some x := by cases x <;> rfl

theorem toNat_num8 {k : Nat} (h : k < 256) : (num8 k).toNat = k := by simp [num8]; omega

@[simp] theorem decodeIndex_num8 {n : Nat} (hn : n ≤ 256) (i : Fin n) : decodeIndex n (num8 i.val) = some i := by
  have h := toNat_num8 (Nat.lt_of_lt_of_le i.isLt hn)
  simp [decodeIndex, h]

@[simp] theorem decodeIndex_fin4 (i : Fin 4) : decodeIndex 4 (num8 i.val) = some i := decodeIndex_num8 (by decide) i
@[simp] theorem decodeIndex_fin2 (i : Fin 2) : decodeIndex 2 (num8 i.val) = some i := decodeIndex_num8 (by decide) i
@[simp] theorem decodeIndex_fin12 (i : Fin 12) : decodeIndex 12 (num8 i.val) = some i := decodeIndex_num8 (by decide) i
@[simp] theorem decodeIndex_fin16 (i : Fin 16) : decodeIndex 16 (num8 i.val) = some i := decodeIndex_num8 (by decide) i
@[simp] theorem decodeIndex_fin24 (i : Fin 24) : decodeIndex 24 (num8 i.val) = some i := decodeIndex_num8 (by decide) i
@[simp] theorem decodeIndex_fin32 (i : Fin 32) : decodeIndex 32 (num8 i.val) = some i := decodeIndex_num8 (by decide) i

theorem word16_getLsbD (b1 b0 : Byte) (i : Nat) :
    (word16 b1 b0).getLsbD i = if i < 8 then b0.getLsbD i else b1.getLsbD (i - 8) := BitVec.getLsbD_append

theorem word24_getLsbD (b2 b1 b0 : Byte) (i : Nat) :
    (word24 b2 b1 b0).getLsbD i = if i < 8 then b0.getLsbD i else (word16 b2 b1).getLsbD (i - 8) := BitVec.getLsbD_append

theorem word32_getLsbD (b3 b2 b1 b0 : Byte) (i : Nat) :
    (word32 b3 b2 b1 b0).getLsbD i = if i < 8 then b0.getLsbD i else (word24 b3 b2 b1).getLsbD (i - 8) := BitVec.getLsbD_append

/-- A two-byte field reads back as it was sent. -/
@[simp] theorem word16_bytes (w : BitVec 16) : word16 (w.extractLsb' 8 8) (w.extractLsb' 0 8) = w := by
  apply BitVec.eq_of_getLsbD_eq
  intro i hi
  rw [word16_getLsbD]
  simp only [BitVec.getLsbD_extractLsb']
  split <;> rename_i h
  · simp [h]
  · simp [show i - 8 < 8 by omega, show 8 + (i - 8) = i by omega]

/-- A three-byte field reads back as it was sent. -/
@[simp] theorem word24_bytes (w : BitVec 24) :
    word24 (w.extractLsb' 16 8) (w.extractLsb' 8 8) (w.extractLsb' 0 8) = w := by
  apply BitVec.eq_of_getLsbD_eq
  intro i hi
  rw [word24_getLsbD, word16_getLsbD]
  simp only [BitVec.getLsbD_extractLsb']
  split <;> rename_i h
  · simp [h]
  · split <;> rename_i h2
    · simp [show i - 8 < 8 by omega, show 8 + (i - 8) = i by omega]
    · simp [show i - 8 - 8 < 8 by omega, show 16 + (i - 8 - 8) = i by omega]

/-- A four-byte field reads back as it was sent. -/
@[simp] theorem word32_bytes (w : BitVec 32) :
    word32 (w.extractLsb' 24 8) (w.extractLsb' 16 8) (w.extractLsb' 8 8) (w.extractLsb' 0 8) = w := by
  apply BitVec.eq_of_getLsbD_eq
  intro i hi
  rw [word32_getLsbD, word24_getLsbD, word16_getLsbD]
  simp only [BitVec.getLsbD_extractLsb']
  split <;> rename_i h
  · simp [h]
  · split <;> rename_i h2
    · simp [show i - 8 < 8 by omega, show 8 + (i - 8) = i by omega]
    · split <;> rename_i h3
      · simp [show i - 8 - 8 < 8 by omega, show 16 + (i - 8 - 8) = i by omega]
      · simp [show i - 8 - 8 - 8 < 8 by omega, show 24 + (i - 8 - 8 - 8) = i by omega]

theorem clampNat_of_mem {lo hi n : Nat} (h1 : lo ≤ n) (h2 : n ≤ hi) : clampNat lo hi n = n := by
  simp only [clampNat]; omega

theorem clampInt_of_mem {lo hi z : Int} (h1 : lo ≤ z) (h2 : z ≤ hi) : clampInt lo hi z = z := by
  simp only [clampInt]; omega

theorem clampNat_mem {lo hi : Nat} (n : Nat) (h : lo ≤ hi) : lo ≤ clampNat lo hi n ∧ clampNat lo hi n ≤ hi := by
  simp only [clampNat]; omega

theorem clampInt_mem {lo hi : Int} (z : Int) (h : lo ≤ hi) : lo ≤ clampInt lo hi z ∧ clampInt lo hi z ≤ hi := by
  simp only [clampInt]; omega

end Sys2Proof.Machine
end

