-- ==== Sys2Proof/Laws/Dispatch.lean ====
section
/-! SUPPORT. What a request's row does on a ready trunk port: it is counted and served at once. The verdict's combinators read
off one at a time. -/

namespace Sys2Proof.Machine

@[simp] theorem Verdict.require_true (code : ResultCode) (v : Verdict) : Verdict.require true code v = v := rfl
@[simp] theorem Verdict.require_false (code : ResultCode) (v : Verdict) : Verdict.require false code v = .refuse code := rfl
@[simp] theorem Verdict.need_some {α : Type} (a : α) (code : ResultCode) (k : α → Verdict) :
    Verdict.need (some a) code k = k a := rfl
@[simp] theorem Verdict.need_none {α : Type} (code : ResultCode) (k : α → Verdict) :
    Verdict.need none code k = .refuse code := rfl
@[simp] theorem State.carryOut_refuse (s : State) (tag : Byte) (code : ResultCode) :
    s.carryOut tag (.refuse code) = s.answer tag code [] := rfl
@[simp] theorem State.carryOut_take (s : State) (tag : Byte) (code : ResultCode) (f : State → State) :
    s.carryOut tag (.take code f) = f (s.answer tag code []) := rfl

/-- The clock operand is accepted for clock A always, and for clock B in split mode. -/
theorem State.clockOperand_code (s : State) (h : Half) (k : Half → Verdict) :
    s.clockOperand (codeHalf h) k = if h = .a ∨ s.split = true then k h else .refuse .wrongState := by
  cases h <;> cases e : s.split <;> simp [State.clockOperand, codeHalf, decodeHalf, Verdict.require, e]

/-- A COMMAND frame carries its command (R167, chapter 11). -/
theorem parse_command (tag : Byte) (c : Command) : parseRequest ((Request.command c).frame tag) = .ok (.command c) := by
  cases c <;> simp [Request.frame, parseRequest, Command.bytes, parseCommand, operandLength, readCommand, byteAt, wordAt, bytes16]

theorem State.dispatchFrames_ready (s : State) (f : TrunkFrame) (h : s.trunk.buffer = []) (hf : s.trunk.mayDispatch f = true) :
    s.acceptFrame f = (s.counted).dispatch f := by
  have ha : s.trunk.accept f = { s.trunk with
      buffer := [f], counters := { s.trunk.counters with accepted := bump s.trunk.counters.accepted } } := by
    simp [Trunk.accept, h]
  simp only [State.acceptFrame, State.pump, State.setTrunk, ha, State.dispatchFrames, List.head?_cons, List.tail_cons]
  have hf' : Trunk.mayDispatch { s.trunk with
      buffer := [f], counters := { s.trunk.counters with accepted := bump s.trunk.counters.accepted } } f = true := hf
  rw [if_pos ⟨trivial, hf'⟩]
  have hb : ({ s.trunk with buffer := [], counters := { s.trunk.counters with accepted := bump s.trunk.counters.accepted } }
      : Trunk) = { s.trunk with counters := { s.trunk.counters with accepted := bump s.trunk.counters.accepted } } := by
    rw [← h]
  simp only [State.counted, State.setTrunk, hb]

/-- R168: on a ready trunk port a request of any kind but PASS, whose frame fits and passes the form checks, is counted and
served at once. -/
theorem State.submit_ready {s : State} {tag : Byte} {r : Request} (h : s.Ready) (hk : (r.frame tag).kind ≠ 0x04)
    (hl : (r.frame tag).body.length + 2 ≤ 255) (hp : parseRequest (r.frame tag) = .ok r) :
    s.submit tag r = s.counted.serve tag r := by
  have hf : s.trunk.mayDispatch (r.frame tag) = true := by
    simp only [Trunk.mayDispatch, h.2, Bool.true_and, Bool.or_eq_true, decide_eq_true_eq]
    exact Or.inl hk
  have ht : (r.frame tag).tag = tag := by cases r <;> rfl
  rw [State.submit, if_pos hl, State.dispatchFrames_ready s _ h.1 hf, State.dispatch, hp, ht]

/-- A COMMAND on a ready trunk port is served at once. -/
theorem State.submit_command {s : State} (h : s.Ready) (tag : Byte) (c : Command) :
    s.submit tag (.command c) = s.counted.serveCommand tag c := by
  have hl : ((Request.command c).frame tag).body.length + 2 ≤ 255 := by cases c <;> simp [Request.frame, Command.bytes, bytes16]
  exact State.submit_ready h (by simp [Request.frame]) hl (parse_command tag c)

/-! ## Waiting replies (R164) -/

/-- R164: with at most one waiting REPLY of each kind, at most two wait. -/
theorem State.RepliesBounded.length_le {s : State} (h : s.RepliesBounded) : s.trunk.replies.length ≤ 2 := by
  have := List.length_eq_length_filter_add (l := s.trunk.replies) fun r => r.deferred
  have := h.1
  have := h.2.1
  omega

theorem State.Bounded.replies_le {s : State} (h : s.Bounded) : s.trunk.replies.length ≤ 2 := h.2.2.2.2.2.length_le

end Sys2Proof.Machine
end

