-- ==== Sys2Proof/Laws/PerInstr.lean ====
section
/-! SUPPORT. A fact of every command, one lemma per constructor: the frame of a well-formed row that is a trunk request fits the
trunk's length field (R165), so that `State.submit` accepts it. -/

namespace Sys2Proof.Laws

open Sys2Proof.Machine

/-- R165: a length of at most 255 counts kind, tag and body. A row that is an event has no frame. -/
def Fits.Statement (i : Instr) : Prop :=
  i.wellFormed = true → ∀ tag r, rowRequest i = some r → (r.frame tag).body.length + 2 ≤ 255

theorem fits_of_event {i : Instr} (h : rowRequest i = none) : Fits.Statement i := by
  intro _ tag r hr
  rw [h] at hr
  cases hr

theorem fits_of_write {i : Instr} {w : TableWrite} (h : rowRequest i = some (.write w)) : Fits.Statement i := by
  intro _ tag r hr
  rw [h] at hr
  cases hr
  cases w <;> simp [Request.frame, TableWrite.bytes, bytes16, bytes24, bytes32, Tab.toList, phaseRecordBytes, List.finRange_succ]

theorem fits_of_command {i : Instr} {c : Command} (h : rowRequest i = some (.command c)) : Fits.Statement i := by
  intro _ tag r hr
  rw [h] at hr
  cases hr
  cases c <;> simp [Request.frame, Command.bytes, bytes16]

theorem Fits.powerOnReset (levels : BitVec 4) (ready : Bool) : Fits.Statement (.powerOnReset levels ready) := fits_of_event rfl
theorem Fits.arenaReset (tag : Byte) : Fits.Statement (.arenaReset tag) := fits_of_command rfl
theorem Fits.countersClear (tag : Byte) : Fits.Statement (.countersClear tag) := fits_of_command rfl
theorem Fits.trunkByteReceived (byte : Byte) (stopBad : Bool) :
    Fits.Statement (.trunkByteReceived byte stopBad) := fits_of_event rfl
theorem Fits.trunkGapTimeout : Fits.Statement (.trunkGapTimeout) := fits_of_event rfl
theorem Fits.trunkFrameSent : Fits.Statement (.trunkFrameSent) := fits_of_event rfl
theorem Fits.writeMatchHeader (tag clock index : Byte) (record : HeaderRecord) :
    Fits.Statement (.writeMatchHeader tag clock index record) := fits_of_write rfl
theorem Fits.writeSlot (tag clock index : Byte) (record : SlotRecord) :
    Fits.Statement (.writeSlot tag clock index record) := fits_of_write rfl
theorem Fits.writeStation (tag clock index : Byte) (record : StationRecord) :
    Fits.Statement (.writeStation tag clock index record) := fits_of_write rfl
theorem Fits.writeSchedule (tag clock index : Byte) (record : Tab 8 PhaseRecord) :
    Fits.Statement (.writeSchedule tag clock index record) := fits_of_write rfl
theorem Fits.writeProfile (tag clock index : Byte) (record : ProfileRecord) :
    Fits.Statement (.writeProfile tag clock index record) := fits_of_write rfl
theorem Fits.turnover (tag clock : Byte) : Fits.Statement (.turnover tag clock) := fits_of_command rfl
theorem Fits.start (tag clock : Byte) : Fits.Statement (.start tag clock) := fits_of_command rfl
theorem Fits.pause (tag clock : Byte) : Fits.Statement (.pause tag clock) := fits_of_command rfl
theorem Fits.resume (tag clock : Byte) : Fits.Statement (.resume tag clock) := fits_of_command rfl
theorem Fits.advance (tag clock : Byte) : Fits.Statement (.advance tag clock) := fits_of_command rfl
theorem Fits.abort (tag clock : Byte) : Fits.Statement (.abort tag clock) := fits_of_command rfl
theorem Fits.replay (tag clock : Byte) : Fits.Statement (.replay tag clock) := fits_of_command rfl
theorem Fits.clear (tag clock : Byte) : Fits.Statement (.clear tag clock) := fits_of_command rfl
theorem Fits.splitSet (tag value : Byte) : Fits.Statement (.splitSet tag value) := fits_of_command rfl
theorem Fits.fieldStop (tag half : Byte) : Fits.Statement (.fieldStop tag half) := fits_of_command rfl
theorem Fits.stopClear (tag half : Byte) : Fits.Statement (.stopClear tag half) := fits_of_command rfl
theorem Fits.tenthEvent (clock : Half) : Fits.Statement (.tenthEvent clock) := fits_of_event rfl
theorem Fits.phaseExpiry (clock : Half) : Fits.Statement (.phaseExpiry clock) := fits_of_event rfl
theorem Fits.arenaLineRisingEdge (line : Fin 4) : Fits.Statement (.arenaLineRisingEdge line) := fits_of_event rfl
theorem Fits.arenaLineFallingEdge (line : Fin 4) : Fits.Statement (.arenaLineFallingEdge line) := fits_of_event rfl
theorem Fits.writeArenaLines (tag clock index : Byte) (record : LineRecord) :
    Fits.Statement (.writeArenaLines tag clock index record) := fits_of_write rfl
theorem Fits.override (tag slot value : Byte) : Fits.Statement (.override tag slot value) := fits_of_command rfl
theorem Fits.stationResume (tag line : Byte) : Fits.Statement (.stationResume tag line) := fits_of_command rfl
theorem Fits.linkFlagClear (tag slot : Byte) : Fits.Statement (.linkFlagClear tag slot) := fits_of_command rfl
theorem Fits.controlFrame : Fits.Statement (.controlFrame) := fits_of_event rfl
theorem Fits.ping : Fits.Statement (.ping) := fits_of_event rfl
theorem Fits.silenceTimerExpiry (station : Fin 12) : Fits.Statement (.silenceTimerExpiry station) := fits_of_event rfl
theorem Fits.consoleCharacterReceived (line : Fin 12) (byte : Byte) (framing : Bool) :
    Fits.Statement (.consoleCharacterReceived line byte framing) := fits_of_event rfl
theorem Fits.gap (line : Fin 12) : Fits.Statement (.gap line) := fits_of_event rfl
theorem Fits.breakStart (line : Fin 12) : Fits.Statement (.breakStart line) := fits_of_event rfl
theorem Fits.breakEnd (line : Fin 12) : Fits.Statement (.breakEnd line) := fits_of_event rfl
theorem Fits.consoleFrameSent (line : Fin 12) : Fits.Statement (.consoleFrameSent line) := fits_of_event rfl
theorem Fits.writeLink (tag clock index : Byte) (record : LinkRecord) :
    Fits.Statement (.writeLink tag clock index record) := fits_of_write rfl
theorem Fits.applyLink (tag : Byte) : Fits.Statement (.applyLink tag) := fits_of_command rfl
theorem Fits.cycleBegin (ready : Bool) : Fits.Statement (.cycleBegin ready) := fits_of_event rfl
theorem Fits.slotWindowBegin (ready : Bool) : Fits.Statement (.slotWindowBegin ready) := fits_of_event rfl
theorem Fits.slotWindowEnd : Fits.Statement (.slotWindowEnd) := fits_of_event rfl
theorem Fits.replyReceived (arena slot : Byte) (kit : BitVec 32) (battery : BitVec 16) (status : Byte) (payload : List Byte) :
    Fits.Statement (.replyReceived arena slot kit battery status payload) := fits_of_event rfl
theorem Fits.joinReceived (arena : Byte) (kit : BitVec 32) (kitClass : Byte) :
    Fits.Statement (.joinReceived arena kit kitClass) := fits_of_event rfl
theorem Fits.radioFrameDamaged (whole : Bool) (bytes : List Byte) :
    Fits.Statement (.radioFrameDamaged whole bytes) := fits_of_event rfl
theorem Fits.livenessExpiry (slot : Fin 24) : Fits.Statement (.livenessExpiry slot) := fits_of_event rfl
theorem Fits.writeElement (tag clock index : Byte) (record : ElementRecord) :
    Fits.Statement (.writeElement tag clock index record) := fits_of_write rfl
theorem Fits.elementOutput (tag element output value : Byte) :
    Fits.Statement (.elementOutput tag element output value) := fits_of_command rfl
theorem Fits.pulseExpiry (element : Fin 32) (output : Fin 2) : Fits.Statement (.pulseExpiry element output) := fits_of_event rfl
theorem Fits.blinkPeriodEnd (element : Fin 32) (output : Fin 2) :
    Fits.Statement (.blinkPeriodEnd element output) := fits_of_event rfl
theorem Fits.busMode (tag mode period : Byte) : Fits.Statement (.busMode tag mode period) := fits_of_command rfl
theorem Fits.sweepStart : Fits.Statement (.sweepStart) := fits_of_event rfl
theorem Fits.pollBegin : Fits.Statement (.pollBegin) := fits_of_event rfl
theorem Fits.pollEnd (answer : Option BusFrame) : Fits.Statement (.pollEnd answer) := fits_of_event rfl
theorem Fits.elementBusStrayBytes (bytes : List Byte) : Fits.Statement (.elementBusStrayBytes bytes) := fits_of_event rfl
theorem Fits.pass (tag address count expected : Byte) (bytes : List Byte) :
    Fits.Statement (.pass tag address count expected bytes) := by
  intro hw t r hr
  simp only [rowRequest, Option.some.injEq] at hr
  subst hr
  simp only [Instr.wellFormed, decide_eq_true_eq] at hw
  simp only [Request.frame, List.length_cons]
  omega
theorem Fits.passEnd (answer : Option BusFrame) : Fits.Statement (.passEnd answer) := fits_of_event rfl
theorem Fits.busResetWaitEnd : Fits.Statement (.busResetWaitEnd) := fits_of_event rfl
theorem Fits.holdTimerExpiry (element : Fin 32) : Fits.Statement (.holdTimerExpiry element) := fits_of_event rfl
theorem Fits.claimReset (tag element : Byte) : Fits.Statement (.claimReset tag element) := fits_of_command rfl
theorem Fits.captureClear (tag element sensor : Byte) : Fits.Statement (.captureClear tag element sensor) := fits_of_command rfl
theorem Fits.scoreAdjust (tag clock alliance : Byte) (delta : BitVec 16) :
    Fits.Statement (.scoreAdjust tag clock alliance delta) := fits_of_command rfl

end Sys2Proof.Laws
end

