-- ==== Sys2Proof/Tests/Slice0.lean ====
section
/-! SUPPORT. Tests: the commands that well-formedness refuses; effects worked out by hand from the rules of spec/, one step each;
and for every obligation with hypotheses a concrete state and operands that meet them, at the boundaries of its clauses. -/

namespace Sys2Proof.Tests

open Sys2Proof.Machine

-- One theorem after the other: each holds a kernel evaluation.
set_option Elab.async false

/-! ## States to test on -/

/-- A slot of station 0, selector 0. -/
def kitEntry : SlotEntry :=
  { kit := 0x11223344, station := some 0, selector := 0, power := 80, deadband := 30, slew := 100, timeout := 500 }

/-- A match with slot 0 and station 0; its schedule is AUTONOMOUS 15 s, an empty TRANSITION, DRIVER 120 s. -/
def bank (auto : Bool) : Bank :=
  { header := { number := 7, slots := 1, stations := 1, autoTurnover := auto }
    slots := (Tab.fill SlotEntry.empty).set 0 kitEntry
    stations := (Tab.fill StationEntry.empty).set 0 { team := 254, alliance := some .red, hold := 300 }
    schedule := (((Tab.fill PhaseEntry.empty).set 0 ⟨.autonomous, 150, 0⟩).set 1 ⟨.transition, 0, 0⟩).set 2 ⟨.driver, 1200, 1⟩
    profiles := .fill { robotEnable := true, driveAdmit := true, buttons := 0x0F, scale := 50, elementAdmit := true } }

/-- The reset state with the match pending, every valid flag set. -/
def ready (auto : Bool) : State :=
  { State.reset with
    tables := State.reset.tables.set .a { active := .empty, pending := bank auto, valid := ⟨true, .fill true, .fill true, true, .fill true⟩ } }

/-- The match active on clock A, the clock in a state and phase with some tenths left. -/
def playing (state : ClockState) (phase : Fin 8) (left : Nat) : State :=
  { State.reset with
    tables := State.reset.tables.set .a { active := bank false, pending := .empty, valid := .clear }
    clocks := State.reset.clocks.set .a { Clock.reset with
      state := state, phase := phase, remaining := left, commandHold := decide (state = .paused) }
    links := State.reset.links.set 0 { SlotLink.reset with state := .linked, liveness := some 500 } }

/-- A match whose schedule holds no entry to enter. -/
def emptyMatch (state : ClockState) : State :=
  { State.reset with clocks := State.reset.clocks.set .a { Clock.reset with state := state } }

/-- A state with clock A's half stopped. -/
def stopped (s : State) : State := s.setClock .a fun c => { c with fieldStop := true }

/-- A state with station 0's console line changed. -/
def withLine (s : State) (l : ConsoleLine) : State := { s with console := s.console.set 0 l }

/-- A state with an arena line configured, at a level, engaged or not. -/
def withArena (s : State) (n : Fin 4) (action : LineAction) (target : LineTarget) (level : Bool) : State :=
  { s with
    lines := s.lines.set n { ArenaLine.reset with
      action := action, target := target, level := level
      engaged := if level then some ⟨action, target⟩ else none } }

/-- A state with a claim of element 0. -/
def withClaim (s : State) (x : Claim) : State := { s with claims := s.claims.set 0 x }

/-- A state with element 0 enabled with an owner, admitted in every phase, its outputs in LEVEL. -/
def withElement (s : State) (owner : Owner) (sensor : SensorMode) : State :=
  { s with
    entries := s.entries.set 0 { ElementEntry.empty with
      enabled := true, owner := owner, mask := 0x3F, holdLimit := 20
      sensors := (Tab.fill ⟨.off, 0⟩).set 0 ⟨sensor, 5⟩ } }

/-- A state with a bus controller changed. -/
def withBus (s : State) (f : Bus → Bus) : State := { s with bus := f s.bus }

/-- A state with a trunk port changed. -/
def withTrunk (s : State) (f : Trunk → Trunk) : State := { s with trunk := f s.trunk }

/-- A state with a cycle part and what is left of the window list. -/
def withPart (s : State) (part : CyclePart) (toCome : List (Fin 24)) : State :=
  { s with radio := { s.radio with part, windows := toCome, toCome } }

/-- The state after some commands; the state itself if one of them were not to answer. -/
def after (cs : List Instr) (s : State) : State :=
  match execAll cs s with
  | .next t => t
  | _ => s

/-! ## Well-formedness refuses -/

theorem test_wellFormed_pass : Instr.wellFormed (.pass 0 1 251 0 (List.replicate 251 0)) = false := by decide +kernel
theorem test_wellFormed_reply : Instr.wellFormed (.replyReceived 0 0 0 0 0 (List.replicate 256 0)) = false := by decide +kernel
theorem test_wellFormed_pollEnd : Instr.wellFormed (.pollEnd (some ⟨[], false⟩)) = false := by decide
theorem test_wellFormed_passEnd : Instr.wellFormed (.passEnd (some ⟨[], false⟩)) = false := by decide
theorem test_wellFormed_strayBytes : Instr.wellFormed (.elementBusStrayBytes []) = false := by decide
theorem test_wellFormed_longest : Instr.wellFormed (.pass 0 1 250 0 (List.replicate 250 0)) = true := by decide +kernel

/-! ## Effects worked out by hand from the rules -/

/-- R177: with every line released, power-on reset is the reset state. -/
theorem test_powerOnReset : powerOnReset 0 true State.reset = State.reset := by decide +kernel

/-- R40: line 2 asserted at power-on is engaged with NONE. -/
theorem test_powerOnReset_engages : ((powerOnReset 0b0100 true State.reset).lines.get 2).engaged = some ⟨.none, .a⟩ := by
  decide +kernel

/-- 00_scope.md 1.4: the CRC of the nine characters 1 to 9 with these parameters is 29B1h. -/
theorem test_crc16 : crc16 [0x31, 0x32, 0x33, 0x34, 0x35, 0x36, 0x37, 0x38, 0x39] = 0x29B1 := by decide +kernel

/-- Chapter 11: ELEMENT_REPLY, DENIED OWNER for element 3: 7E 04 82 03 06 06 and the check that makes the sum 0 modulo 256. -/
theorem test_elementReply_bytes :
    (ConsoleOut.elementReply 3 (.denied .owner)).bytes = [0x7E, 0x04, 0x82, 0x03, 0x06, 0x06, 0xED] := by decide

/-- Chapter 11: the poll frame of element 4 with values 0 and FFh: address 5, 0, the values, the check. -/
theorem test_pollFrame : pollFrame 4 0x00 0xFF = [0x05, 0x00, 0x00, 0xFF, 0xFC] := by decide

/-- Chapter 11: a PHASE record of clock B, index 2, DRIVER, numbered 0102h, without sync, length and check. -/
theorem test_phase_record : (Record.bytes ⟨0x0102, .phase .b 2 .driver⟩).take 11
    = [0xA5, 0x00, 0x08, 0x82, 0x00, 0x01, 0x02, 0x05, 0x01, 0x02, 0x04] := by decide

/-- R66 to R69: power 80, deadband 30, scale 50: 1200 is bounded to 1000 and scaled to 400, -31 gives -12, 30 gives 0. -/
theorem test_condition : condition 80 30 50 1200 = 400 ∧ condition 80 30 50 (BitVec.ofInt 16 (-31)) = -12
    ∧ condition 80 30 50 30 = 0 ∧ condition 80 30 50 0x8000 = -400 := by decide +kernel

/-- R73: from 250 toward -1000 by a step of 100, and onto a target less than a step away. -/
theorem test_slew : slew 100 250 (-1000) = 150 ∧ slew 100 250 300 = 300 := by decide

/-- R121: a blink of 100 ms at 33 per cent is on for 33 ms. -/
theorem test_blink : OutputState.modeOutput { mode := .blink, safe := 0, pulse := 10, period := 10, duty := 33 } (.blink (some 32)) = 255
    ∧ OutputState.modeOutput { mode := .blink, safe := 0, pulse := 10, period := 10, duty := 33 } (.blink (some 33)) = 0 := by
  decide

/-- R37: 1 tenth left is published as 1 second, 150 as 15. -/
theorem test_remainingSeconds : (playing .running 0 1).clocks.a.remainingSeconds = 1
    ∧ (playing .paused 0 150).clocks.a.remainingSeconds = 15 := by decide +kernel

/-- R169, R180: bits 12-15 of the station mask have no meaning. -/
theorem test_header_mask : ((after [.writeMatchHeader 1 0 0 ⟨9, 0x000001, 0xF001, 1⟩] State.reset).tables.a.pending.header)
    = ⟨9, 1, 1, true⟩ := by decide +kernel

/-- R5: a schedule that starts with NONE is refused, and the REPLY says BAD_VALUE. -/
theorem test_schedule_refused : (after [.writeSchedule 5 0 0 (.fill ⟨0, 0, 0⟩)] State.reset).trunk.wire
    = trunkFrame 0x81 5 [0x13] := by decide +kernel

/-- R12: power 200 is stored as 100 and timeout 50 as 100, with CLAMPED. -/
theorem test_slot_clamped :
    let t := after [.writeSlot 5 0 3 ⟨1, 2, 1, 200, 10, 5, 50⟩] State.reset
    t.tables.a.pending.slots.get 3 = ⟨1, some 2, 1, 100, 10, 5, 100⟩ ∧ t.trunk.wire = trunkFrame 0x81 5 [0x01] := by
  decide +kernel

/-- R16, R19: a turnover of the pending match arms clock A with phase 0's length, the slot SEARCHING. -/
theorem test_turnover : let t := after [.turnover 1 0] (ready false)
    t.clocks.a.state = .armed ∧ t.clocks.a.remaining = 150 ∧ (t.links.get 0).state = .searching
      ∧ t.tables.a.valid = .clear := by decide +kernel

/-- R36: the phase after the first is the third, the second being of length 0. -/
theorem test_phase_skips : let t := after [.phaseExpiry .a] (playing .running 0 1)
    t.clocks.a.phase = 2 ∧ t.clocks.a.remaining = 1200 := by decide +kernel

/-- R35, R36: the last tenth of the last phase ends the match. -/
theorem test_match_ends : (after [.tenthEvent .a] (playing .running 2 1)).clocks.a.state = .ended := by decide +kernel

/-- R44: FIELD_STOP of a RUNNING match pauses it with both holds; R45 and R30 let it run on. -/
theorem test_stop_and_go : (after [.fieldStop 1 0] (playing .running 0 9)).clocks.a
    = { (playing .running 0 9).clocks.a with state := .paused, commandHold := true, stopHold := true, fieldStop := true }
    ∧ (after [.fieldStop 1 0, .trunkFrameSent, .stopClear 2 0, .trunkFrameSent, .resume 3 0] (playing .running 0 9)).clocks.a.state
      = .running := by decide +kernel

/-- R43: a HOLD line pauses a running clock, and its release lets it run. -/
theorem test_hold_line : let s := withArena (playing .running 0 9) 1 .hold .both false
    (after [.arenaLineRisingEdge 1] s).clocks.a.state = .paused
      ∧ (after [.arenaLineRisingEdge 1, .arenaLineFallingEdge 1] s).clocks.a.state = .running := by decide +kernel

/-- R49, R51: a forced slot of an IDLE clock stands in test mode. -/
theorem test_override : (after [.override 1 0 1] (playing .armed 0 150)).permission 0 = .none
    ∧ (playing .armed 0 150).permission 0 = .phase := by decide +kernel

/-- R86 to R90, R56, R60: the four bytes of a PING are a completed frame, which is answered with a STATUS. -/
theorem test_ping : let t := after ([0x7E, 0x01, 0x02, 0x7F].map fun b => .consoleCharacterReceived 3 b false) State.reset
    (t.console.get 3).assembler = .waiting .ping ∧ (t.console.get 3).counters.completed = 1
      ∧ ((after [.ping] t).console.get 3).queue = [.status false false false false (.fill none)] := by decide +kernel

/-- R88: an idle gap abandons the frame in assembly and counts it. -/
theorem test_gap : ((after [.consoleCharacterReceived 0 0x7E false, .gap 0] State.reset).console.get 0).counters.gapTimeouts = 1 := by
  decide +kernel

/-- R53, R54: a break stops the station, and STATION_RESUME after it clears the latch. -/
theorem test_break : ((after [.breakStart 0, .breakEnd 0, .stationResume 1 0] (playing .running 0 9)).stations.get 0).stopLatch = false
    ∧ (after [.breakStart 0] (playing .running 0 9)).permission 0 = .stationStop := by decide +kernel

/-- R93: a TELEMETRY frame replaces the one of its selector that has not begun, in its place. -/
theorem test_telemetry_replaced :
    let old : ConsoleOut := .telemetry 1 0 0 []
    let new : ConsoleOut := .telemetry 1 9 0 []
    ({ ConsoleLine.reset with queue := [.elementReply 0 .done, old, .elementReply 1 .done] } : ConsoleLine).pushTelemetry 1 new
      = { ConsoleLine.reset with queue := [.elementReply 0 .done, new, .elementReply 1 .done] } := by decide +kernel

/-- R94: at four frames a reply evicts the oldest TELEMETRY frame that has not begun. -/
theorem test_reply_evicts :
    (({ ConsoleLine.reset with
      queue := [.telemetry 0 0 0 [], .elementReply 0 .done, .telemetry 1 0 0 [], .elementReply 1 .done] } : ConsoleLine).pushReply
        (.elementReply 2 .held)).queue
      = [.telemetry 0 0 0 [], .elementReply 0 .done, .elementReply 1 .done, .elementReply 2 .held] := by decide +kernel

/-- R108, R110: a known JOIN of a SEARCHING slot links it and waits for the next BEACON. -/
theorem test_join : let t := after [.joinReceived 0 0x11223344 2] (withPart (after [.turnover 1 0] (ready false)) .join [])
    (t.links.get 0).state = .linked ∧ (t.links.get 0).liveness = some 500 ∧ t.radio.answers = [⟨0x11223344, 0⟩] := by
  decide +kernel

/-- R103, R104: a REPLY of another arena in a window is counted as foreign, and is the one accepted in the window. -/
theorem test_foreign_reply : let t := after [.replyReceived 9 0 0 0 0 []] (withPart (playing .running 0 9) (.window 0 false false) [])
    t.radio.counters.foreign = 1 ∧ t.radio.part = .window 0 true false := by decide +kernel

/-- R103, R50: a running match's DOWNLINK carries enable 1 and the target reached in one step. -/
theorem test_downlink : let t := after [.slotWindowBegin true] (withPart (playing .running 0 9) .beacon [0])
    t.radio.out.take 7 = [2, 0, 0, 7, 1, 2, 0] := by decide +kernel

/-- R138 to R141: of two claims the first is granted, the second waits at place 1. -/
theorem test_claims : let s := withElement (playing .running 0 9) .shared .off
    (s.request 0 ⟨0, .claim, 0, 0⟩).2 = .granted
      ∧ ((s.request 0 ⟨0, .claim, 0, 0⟩).1.request 1 ⟨0, .claim, 0, 0⟩).2 = .queued 1 := by decide +kernel

/-- R154: from baseline 14 to counter 1 are 3 events, worth 15 points at 5 each for RED. -/
theorem test_count_sensor :
    let s := withBus (withElement (playing .running 0 9) .red .count) fun b => { b with inFlight := .poll 0 false }
    let s := { s with sensors := s.sensors.set 0 (.fill { Sensor.reset with baseline := some 14 }) }
    let t := after [.pollEnd (some ⟨[1, 0, 1, 0, 0xFE], false⟩)] s
    ((t.sensors.get 0).get 0).count = 3 ∧ t.scores.a = ⟨15, 0⟩ := by decide +kernel

/-- R159, R160: 40 less 60 is 0; a delta of -2000 is taken as -1000, with CLAMPED. -/
theorem test_scoreAdjust : let s := { playing .running 0 9 with scores := ⟨⟨40, 1500⟩, .zero⟩ }
    (after [.scoreAdjust 1 0 1 (BitVec.ofInt 16 (-60))] s).scores.a = ⟨0, 1500⟩
      ∧ (after [.scoreAdjust 1 0 2 (BitVec.ofInt 16 (-2000))] s).scores.a = ⟨40, 500⟩
      ∧ (after [.scoreAdjust 1 0 2 (BitVec.ofInt 16 (-2000))] s).trunk.wire = trunkFrame 0x81 1 [0x01] := by decide +kernel

/-- R161: two events of one sensor that wait in the queue become one record. -/
theorem test_coalesce : let s := withTrunk State.reset fun t => { t with tx := .reply }
    ((s.reportEvent 0 1 200 .high false 0).reportEvent 0 1 100 .low true 7).trunk.reports
      = [⟨0, .elementEvent 0 1 255 .low true 7⟩] := by decide +kernel

/-! ## Witnesses: states and operands that meet the hypotheses of the obligations -/

/-- A statement of both halves. -/
theorem both {p : Half → Prop} (ha : p .a) (hb : p .b) : ∀ h, p h
  | .a => ha
  | .b => hb

theorem witness_idle : State.reset.pending = [] ∧ ∀ h, (State.reset.clocks.get h).state ≠ .running :=
  ⟨rfl, both (by decide +kernel) (by decide +kernel)⟩

/-- A state whose trunk port is ready; the hypotheses of PowerOn, ArenaReset and CountersClear are no more than this. -/
theorem witness_ready : (playing .running 0 9).Ready ∧ (ready true).Ready ∧ State.reset.Ready :=
  ⟨⟨rfl, rfl⟩, ⟨rfl, rfl⟩, ⟨rfl, rfl⟩⟩

/-- Full queues, and a command whose report no longer fits. -/
def full : State :=
  { withClaim (withLine State.reset { ConsoleLine.reset with
      fifo := List.replicate 16 ⟨0, false, .empty⟩, queue := List.replicate 4 (.elementReply 0 .done), assembler := .waiting .ping })
      { Claim.empty with holder := some 0, waiters := [1, 2, 3, 4] } with
    trunk := { Trunk.reset with
      buffer := [⟨3, 0, [0x0A, 0]⟩, ⟨3, 1, [0x0A, 0]⟩], replies := [⟨0, .ok, [], false⟩], tx := .reply
      reports := List.replicate 32 ⟨0, .busMode .auto⟩ }
    pending := [.breakStart 0] }

theorem witness_bounded : full.Bounded :=
  ⟨by decide +kernel, by decide +kernel, by decide +kernel, by decide +kernel, by unfold Claim.Formed; decide +kernel,
    by decide +kernel, by decide +kernel, fun _ _ _ _ => by decide +kernel⟩
theorem witness_bounded_step : ∃ t, step full = .next t := ⟨_, rfl⟩

/-- A paused match, and the command that lets it run. -/
def resuming : State := { playing .paused 0 9 with pending := [.resume 1 0] }

theorem witness_settled : resuming.Settled :=
  both (by unfold Clock.Settled; decide +kernel) (by unfold Clock.Settled; decide +kernel)
theorem witness_settled_step : ∃ t, step resuming = .next t := ⟨_, rfl⟩
theorem witness_clockB : resuming.ClockBRests ∧ resuming.split = false := by
  unfold State.ClockBRests
  decide +kernel

/-- A PASS with the number of bytes it declares, none and 255. -/
theorem witness_requests : ([] : List Byte).length = (0 : Byte).toNat ∧ (List.replicate 255 (0 : Byte)).length = (255 : Byte).toNat := by
  decide +kernel

theorem witness_trunkBytes : State.reset.trunk.receiver = .hunting ∧ ([] : List Byte).length + 2 ≤ 255
    ∧ (List.replicate 253 (0 : Byte)).length + 2 ≤ 255 := by decide +kernel

/-- A READ of the last slot of half B in split mode, and of the first outside it; banks 0, 1 and 2, index 24 and clock 2. -/
theorem witness_read :
    let s : State := { ready false with split := true }
    s.trunk.receiver = .hunting ∧ (Half.b = .a ∨ s.split = true) ∧ s.slotHalf 23 = .b ∧ num8 (23 : Fin 24).val = 23
      ∧ (ready false).slotHalf 0 = .a ∧ (ready false).split = false ∧ (1 : Byte) = codeHalf .b ∧ 2 ≤ (2 : Byte).toNat
      ∧ 24 ≤ (24 : Byte).toNat ∧ ReadTable.profile ∈ [ReadTable.matchHeader, .slot, .station, .schedule, .profile] := by
  decide +kernel
theorem witness_read_split : ({ ready false with split := true } : State).Ready := ⟨rfl, rfl⟩

/-- R159, R165, R170: a READ of SCORE for clock A is answered OK: RUNNING, match 7, RED 40, BLUE 1500. -/
theorem test_read_score :
    (after ((trunkFrame 0x02 9 [0x14, 0, 0, 0]).map fun b => .trunkByteReceived b false)
      { playing .running 0 9 with scores := ⟨⟨40, 1500⟩, .zero⟩ }).trunk.wire
      = trunkFrame 0x81 9 [0, 2, 0, 7, 0, 40, 0x05, 0xDC] := by decide +kernel

/-- The length field with its first byte taken: lengths 2 and 255 go on, 1 and 256 do not. -/
theorem witness_trunkReception :
    (withTrunk State.reset fun t => { t with receiver := .receiving [0] false }).trunk.receiver = .receiving [0] false
    ∧ (withTrunk State.reset fun t => { t with receiver := .receiving [1] false }).trunk.receiver = .receiving [1] false := ⟨rfl, rfl⟩
theorem test_lengths :
    (after [.trunkByteReceived 1 false] (withTrunk State.reset fun t => { t with receiver := .receiving [0] false })).trunk.receiver = .hunting
    ∧ (after [.trunkByteReceived 2 false] (withTrunk State.reset fun t => { t with receiver := .receiving [0] false })).trunk.receiver
      = .receiving [0, 2] false := by decide +kernel

/-- Three transmitters at the end of a frame: a REPLY waits, a REPORT waits, nothing waits. -/
theorem witness_transmitter :
    let s := withTrunk State.reset fun t => { t with tx := .report, reports := [⟨0, .busMode .auto⟩, ⟨1, .busMode .manual⟩] }
    let r := withTrunk s fun t => { t with replies := [⟨0, .ok, [], false⟩] }
    let n := withTrunk State.reset fun t => { t with tx := .orphan }
    (s.trunk.tx ≠ .idle ∧ s.trunk.buffer = [] ∧ s.trunk.replies = []) ∧ (r.trunk.tx ≠ .idle ∧ r.trunk.buffer = [])
      ∧ n.trunk.tx ≠ .idle ∧ n.trunk.buffer = [] ∧ n.trunk.replies = [] ∧ n.trunk.reports = [] := by decide +kernel

/-- The end of a REPLY with a frame in the receive buffer: a REPLY of a dispatch waits behind the next one; a deferred one waits
behind it, which holds a PASS back and no other frame. -/
theorem witness_dispatch :
    let s := withTrunk State.reset fun t => { t with
      tx := .reply, buffer := [⟨0x03, 1, [0x0A, 0]⟩], replies := [⟨0, .ok, [], true⟩, ⟨1, .ok, [], false⟩] }
    let d := withTrunk s fun t => { t with replies := [⟨0, .ok, [], false⟩, ⟨1, .ok, [], true⟩] }
    let p := withTrunk d fun t => { t with buffer := [⟨0x04, 1, []⟩] }
    s.trunk.tx ≠ .idle ∧ (∃ x ∈ s.trunk.replies.tail, x.deferred = false) ∧ s.trunk.buffer.tail = []
      ∧ (∀ x ∈ d.trunk.replies.tail, x.deferred = true) ∧ (⟨0x03, 1, [0x0A, 0]⟩ : TrunkFrame).kind ≠ 0x04
      ∧ (⟨0x04, 1, []⟩ : TrunkFrame).kind = 0x04 ∧ p.trunk.replies.tail ≠ [] := by decide +kernel

theorem witness_fullBuffer : Instr.wellFormed (.pause 1 0) = true ∧ rowRequest (.pause 1 0) ≠ none ∧ full.trunk.buffer.length = 2
    ∧ full.trunk.replies.any (fun r => !r.deferred) = true := by decide +kernel

theorem witness_reports : full.trunk.reports.length = 32
    ∧ (withTrunk full fun t => { t with reports := List.replicate 31 ⟨0, .busMode .auto⟩ }).trunk.reports.length < 32 := by
  decide +kernel

/-- The whole arena outside split mode; the upper half in split mode. -/
theorem witness_header :
    (∀ i, (0xFFFFFF : BitVec 24).getLsb i = true → State.reset.slotHalf i = .a)
    ∧ (∀ n, ((0xFFFF : BitVec 16).extractLsb' 0 12).getLsb n = true → State.reset.stationHalf n = .a)
    ∧ (∀ i, (0xFFF000 : BitVec 24).getLsb i = true → { State.reset with split := true }.slotHalf i = .b)
    ∧ (∀ n, ((0x0FC0 : BitVec 16).extractLsb' 0 12).getLsb n = true → { State.reset with split := true }.stationHalf n = .b)
    ∧ { State.reset with split := true }.Ready := by
  refine ⟨by decide +kernel, by decide +kernel, by decide +kernel, by decide +kernel, rfl, rfl⟩

/-- A slot written beside a valid one: its own kit and selector, and the same kit. -/
theorem witness_slot :
    (ready false).slotHalf 1 = .a ∧ (ready false).stationHalf 0 = .a
    ∧ (∀ j, j ≠ 1 → ((ready false).tables.get .a).valid.slots.get j = true → (((ready false).tables.get .a).pending.slots.get j).kit ≠ 0 →
      ¬ ((((ready false).tables.get .a).pending.slots.get j).station = some 0
        ∧ (((ready false).tables.get .a).pending.slots.get j).selector = 1))
    ∧ (∀ j, j ≠ 1 → ((ready false).tables.get .a).valid.slots.get j = true →
      (((ready false).tables.get .a).pending.slots.get j).kit ≠ 0x99)
    ∧ (∀ j, ((ready false).tables.get .b).valid.slots.get j = true →
      (((ready false).tables.get .b).pending.slots.get j).kit ≠ 0x99)
    ∧ ((0 : Fin 24) ≠ 1 ∧ ((ready false).tables.get .a).valid.slots.get 0 = true
      ∧ (((ready false).tables.get .a).pending.slots.get 0).kit = 0x11223344) := by decide +kernel

theorem witness_station : State.reset.stationHalf 11 = .a ∧ { State.reset with split := true }.stationHalf 6 = .b
    ∧ { State.reset with split := true }.stationHalf 5 = .a := by decide +kernel

theorem witness_schedule : (ready true).Ready ∧ ({ State.reset with split := true } : State).Ready := ⟨⟨rfl, rfl⟩, ⟨rfl, rfl⟩⟩

theorem witness_turnover : (ready false).Ready ∧ ((ready false).clocks.get .a).state.started = false
    ∧ (ready false).lockCore .a = true := ⟨⟨rfl, rfl⟩, by decide +kernel, by decide +kernel⟩

/-- A turnover with slot 0 copied, and with its kit active on the other clock. -/
theorem witness_turnover_slots :
    let s := ready false
    let x : State := { s with tables := s.tables.set .b { (s.tables.get .b) with active := bank false } }
    let p := (s.tables.get .a).pending
    s.slotHalf 0 = .a ∧ p.header.slots.getLsb 0 = true ∧ (s.tables.get .a).valid.slots.get 0 = true ∧ (p.slots.get 0).kit ≠ 0
      ∧ (p.slots.get 0).station = some 0 ∧ ((x.active .b).slots.get 0).kit = (p.slots.get 0).kit
      ∧ (∀ j, ((s.active .b).slots.get j).kit ≠ (p.slots.get 0).kit) ∧ { s with split := true }.slotHalf 12 ≠ .a := by
  decide +kernel

theorem witness_refused :
    ((playing .running 0 9).clocks.get .a).state.started = true ∧ (State.reset.clocks.get .a).state.started = false
    ∧ State.reset.lockCore .a = false ∧ (State.reset.clocks.get .a).state ≠ .armed
    ∧ ((stopped (playing .armed 0 9)).clocks.get .a).state = .armed ∧ ((stopped (playing .armed 0 9)).clocks.get .a).fieldStop = true
    ∧ (stopped (playing .armed 0 9)).trunk = Trunk.reset ∧ State.reset.split = false ∧ 2 ≤ (2 : Byte).toNat ∧ (1 : Byte).toNat ≤ 1 := by
  decide +kernel
theorem witness_refused_split : ∃ h, ((playing .running 0 9).clocks.get h).state ≠ .idle := ⟨.a, by decide +kernel⟩

theorem noPhase_of {schedule : Tab 8 PhaseEntry} {start : Nat}
    (h : ∀ j : Fin 8, ¬ (start ≤ j.val ∧ (schedule.get j).kind ≠ .none ∧ (schedule.get j).duration ≠ 0)) : NoPhase schedule start :=
  fun j hj => h j ⟨hj.1, hj.2.1, hj.2.2.1⟩

theorem witness_start : (playing .armed 0 150).Ready ∧ ((playing .armed 0 150).clocks.get .a).state = .armed
    ∧ ((playing .armed 0 150).clocks.get .a).fieldStop = false ∧ NextPhase ((playing .armed 0 150).active .a).schedule 0 0 :=
  ⟨⟨rfl, rfl⟩, by decide +kernel, by decide +kernel, by unfold NextPhase; decide +kernel⟩
theorem witness_start_empty : (emptyMatch .armed).Ready ∧ ((emptyMatch .armed).clocks.get .a).state = .armed
    ∧ ((emptyMatch .armed).clocks.get .a).fieldStop = false ∧ NoPhase ((emptyMatch .armed).active .a).schedule 0
    ∧ ((emptyMatch .armed).lock .a && ((emptyMatch .armed).tables.get .a).pending.header.autoTurnover) = false :=
  ⟨⟨rfl, rfl⟩, by decide +kernel, by decide +kernel, noPhase_of (by decide +kernel), by decide +kernel⟩

theorem witness_resume : (playing .paused 0 9).Ready ∧ ((playing .paused 0 9).clocks.get .a).Settled
    ∧ ((playing .paused 0 9).clocks.get .a).state = .paused ∧ ((playing .paused 0 9).clocks.get .a).commandHold = true :=
  ⟨⟨rfl, rfl⟩, by unfold Clock.Settled; decide +kernel, by decide +kernel, by decide +kernel⟩

theorem witness_advance : (playing .running 0 9).Ready ∧ ((playing .running 0 9).clocks.get .a).state.started = true
    ∧ NextPhase ((playing .running 0 9).active .a).schedule (((playing .running 0 9).clocks.get .a).phase.val + 1) 2 :=
  ⟨⟨rfl, rfl⟩, by decide +kernel, by unfold NextPhase; decide +kernel⟩
theorem witness_last_phase : (playing .running 2 1).Ready ∧ ((playing .running 2 1).clocks.get .a).state.started = true
    ∧ NoPhase ((playing .running 2 1).active .a).schedule (((playing .running 2 1).clocks.get .a).phase.val + 1)
    ∧ ((playing .running 2 1).lock .a && ((playing .running 2 1).tables.get .a).pending.header.autoTurnover) = false :=
  ⟨⟨rfl, rfl⟩, by decide +kernel, noPhase_of (by decide +kernel), by decide +kernel⟩
theorem witness_abort_turnover :
    let s := (ready true).setClock .a fun c => { c with state := .running }
    s.trunk = Trunk.reset ∧ (s.clocks.get .a).state.started = true
      ∧ (s.lock .a && (s.tables.get .a).pending.header.autoTurnover) = true := by decide +kernel

theorem witness_replay : (playing .ended 0 0).Ready ∧ ((playing .ended 0 0).clocks.get .a).state = .ended := ⟨⟨rfl, rfl⟩, rfl⟩
theorem witness_clear : (playing .armed 0 0).Ready ∧ ((playing .armed 0 0).clocks.get .a).state.started = false := ⟨⟨rfl, rfl⟩, rfl⟩

/-- Both clocks IDLE, in and out of split mode, with half A stopped. -/
theorem witness_split : (stopped State.reset).Ready ∧ (stopped State.reset).clocks.a.state = .idle
    ∧ (stopped State.reset).clocks.b.state = .idle ∧ (stopped State.reset).split = false
    ∧ { stopped State.reset with split := true }.clocks.a.state = .idle
    ∧ { stopped State.reset with split := true }.clocks.b.state = .idle
    ∧ { stopped State.reset with split := true }.Ready := ⟨⟨rfl, rfl⟩, rfl, rfl, rfl, rfl, rfl, ⟨rfl, rfl⟩⟩

theorem witness_fieldStop : (playing .running 0 9).Ready ∧ ((playing .running 0 9).clocks.get .a).fieldStop = false
    ∧ (stopped State.reset).Ready ∧ ((stopped State.reset).clocks.get .a).fieldStop = true := ⟨⟨rfl, rfl⟩, rfl, ⟨rfl, rfl⟩, rfl⟩
theorem witness_stopClear_refused : (withArena State.reset 3 .stop .both true).Ready
    ∧ ∃ n g, ((withArena State.reset 3 .stop .both true).lines.get n).engaged = some g ∧ g.action = .stop
      ∧ (withArena State.reset 3 .stop .both true).targets g.target .a = true :=
  ⟨⟨rfl, rfl⟩, 3, ⟨.stop, .both⟩, by decide +kernel⟩
theorem witness_stopClear : ∀ n g, ((stopped State.reset).lines.get n).engaged = some g → g.action = .stop →
    (stopped State.reset).targets g.target .a = false := by
  intro n g h
  have hn : ∀ m, ((stopped State.reset).lines.get m).engaged = none := by decide +kernel
  rw [hn n] at h
  cases h

/-- Two tenths left, with a shared element whose timer has two left; one tenth left with a next phase. -/
theorem witness_tenth :
    let s := withClaim (withElement (playing .running 0 2) .shared .off) { Claim.empty with holder := some 0, timer := some 2 }
    (s.clocks.get .a).state = .running ∧ 2 ≤ (s.clocks.get .a).remaining ∧ s.elementHalf 0 = .a
      ∧ (s.entries.get 0).owner = .shared ∧ (s.claims.get 0).timer = some 2 ∧ (State.reset.clocks.get .a).state ≠ .running := by
  decide +kernel
theorem witness_tenth_last : ((playing .running 0 1).clocks.get .a).state = .running ∧ ((playing .running 0 1).clocks.get .a).remaining ≤ 1
    ∧ NextPhase ((playing .running 0 1).active .a).schedule (((playing .running 0 1).clocks.get .a).phase.val + 1) 2 :=
  ⟨rfl, by decide +kernel, by unfold NextPhase; decide +kernel⟩

/-- A half whose next phase excludes element 0 by its mask. -/
def excluding : State :=
  { withClaim (playing .running 0 1) { Claim.empty with holder := some 0, waiters := [1] } with
    entries := State.reset.entries.set 0 { ElementEntry.empty with enabled := true, owner := .shared, mask := 0x02 } }

theorem witness_flush : excluding.Ready ∧ (excluding.clocks.get .a).state = .running
    ∧ NextPhase (excluding.active .a).schedule ((excluding.clocks.get .a).phase.val + 1) 2
    ∧ excluding.PhaseExcludes .a ((excluding.active .a).schedule.get 2) 0
    ∧ ¬ excluding.PhaseExcludes .a ((excluding.active .a).schedule.get 2) 31
    ∧ (excluding.clocks.get .a).remaining ≤ 1 ∧ ∀ x, (excluding.claims.get x).timer = none :=
  ⟨⟨rfl, rfl⟩, by decide +kernel, by unfold NextPhase; decide +kernel, by unfold State.PhaseExcludes; decide +kernel,
    by unfold State.PhaseExcludes; decide +kernel, by decide +kernel, by decide +kernel⟩

/-- R146, R148: station 0, which holds elements 0 and 5, is answered for element 0 first. -/
theorem test_flush_ascends :
    let s := { excluding with
      entries := excluding.entries.set 5 (excluding.entries.get 0)
      claims := excluding.claims.set 5 { Claim.empty with holder := some 0 } }
    ((after [.phaseExpiry .a] s).console.get 0).queue
      = [.elementReply 0 (.released .phase), .elementReply 5 (.released .phase)] := by decide +kernel

/-- A held element with hold points: 8 and 9 tenths accrued, with 2 tenths, 1 tenth and no limit on the hold, and the last tenth
of a phase. -/
def accruing (left accumulator : Nat) (timer : Option Nat) : State :=
  { withClaim (playing .running 0 left) { holder := some 0, waiters := [1], timer, accumulator } with
    entries := State.reset.entries.set 0 { ElementEntry.empty with enabled := true, owner := .shared, mask := 0x3F, holdPoints := 3 } }

theorem witness_accrual : ∀ left a timer, (left, a, timer) ∈ [(2, 8, some 2), (2, 9, some 1), (1, 9, none)] →
    let s := accruing left a timer
    (s.clocks.get .a).state = .running ∧ s.elementHalf 0 = .a ∧ (s.entries.get 0).owner = .shared
      ∧ (s.claims.get 0).holder = some 0 ∧ (s.entries.get 0).holdPoints ≠ 0 ∧ (s.claims.get 0).timer = timer
      ∧ (s.claims.get 0).accumulator = a ∧ (s.clocks.get .a).remaining = left
      ∧ ∀ x, x ≠ 0 → s.elementHalf x = .a → (s.entries.get x).owner = .shared → (s.entries.get x).holdPoints ≠ 0 →
          (s.claims.get x).holder = none := by
  simp only [List.mem_cons, List.not_mem_nil, or_false, Prod.mk.injEq]
  rintro left a timer (⟨rfl, rfl, rfl⟩ | ⟨rfl, rfl, rfl⟩ | ⟨rfl, rfl, rfl⟩) <;> decide +kernel
theorem witness_accrual_last :
    ∃ j, NextPhase ((accruing 1 9 none).active .a).schedule (((accruing 1 9 none).clocks.get .a).phase.val + 1) j :=
  ⟨2, by unfold NextPhase; decide +kernel⟩

/-- R143 to R145: the tenth tenth is credited to the holder that leaves in it. -/
theorem test_accrual_before_expiry : let t := after [.tenthEvent .a] (accruing 2 9 (some 1))
    t.scores.a = ⟨3, 0⟩ ∧ (t.claims.get 0).holder = some 1 ∧ (t.claims.get 0).accumulator = 0 := by decide +kernel

theorem witness_rising : ((withArena (playing .running 0 9) 0 .hold .a false).lines.get 0).level = false
    ∧ ((withArena (playing .running 0 9) 0 .hold .a false).lines.get 0).action = .hold
    ∧ (withArena (playing .running 0 9) 0 .hold .b false).targets .b .a = true
    ∧ ((withArena State.reset 3 .stop .both false).lines.get 3).action = .stop
    ∧ (withArena State.reset 3 .stop .both false).targets .both .a = true := by decide +kernel
theorem witness_rising_start :
    ((withArena (playing .armed 0 150) 1 .start .a false).lines.get 1).level = false
    ∧ ((withArena (playing .armed 0 150) 1 .start .a false).clocks.get .a).state = .armed
    ∧ ((withArena (playing .armed 0 150) 1 .start .a false).clocks.get .a).fieldStop = false
    ∧ NextPhase ((withArena (playing .armed 0 150) 1 .start .a false).active .a).schedule 0 0 :=
  ⟨by decide +kernel, by decide +kernel, by decide +kernel, by unfold NextPhase; decide +kernel⟩
theorem witness_falling : ((withArena (playing .running 0 9) 2 .none .a true).lines.get 2).level = true := by decide +kernel

theorem witness_ignoredStart :
    let s := withArena State.reset 0 .start .both false
    (s.lines.get 0).level = false ∧ (s.lines.get 0).action = .start ∧ s.split = false
      ∧ ¬ (s.clocks.a.state = .armed ∧ s.clocks.a.fieldStop = false)
      ∧ ∀ m, (s.lines.get m).level = false → (s.lines.get m).engaged = none := by decide +kernel
theorem witness_ignoredStart_settled : (∀ h, ((withArena State.reset 0 .start .both false).clocks.get h).lineHold
      = (withArena State.reset 0 .start .both false).lineHold h) ∧ (withArena State.reset 0 .start .both false).Settled :=
  ⟨both (by decide +kernel) (by decide +kernel),
    both (by unfold Clock.Settled; decide +kernel) (by unfold Clock.Settled; decide +kernel)⟩

theorem witness_indices : 4 ≤ (4 : Byte).toNat ∧ (1 : Byte) ≠ 0 ∧ 24 ≤ (24 : Byte).toNat ∧ ((23 : Byte).toNat < 24 ∧ 3 ≤ (3 : Byte).toNat)
    ∧ 12 ≤ (12 : Byte).toNat ∧ 32 ≤ (32 : Byte).toNat ∧ (31 : Byte).toNat < 32 ∧ 2 ≤ (2 : Byte).toNat := by decide

/-- A CONTROL frame of station 0, with or without a claim of element 0. -/
def frame (selector : Byte) (claim : Bool) : ControlFrame :=
  { selector := selector, channels := .fill 1200, buttons := 0xFF
    request := if claim then some ⟨0, .claim, 0, 0⟩ else none }

/-- Station 0's line with a completed frame. -/
def waiting (f : HeldFrame) : ConsoleLine := { ConsoleLine.reset with assembler := .waiting f }

theorem witness_control :
    let s := withLine (playing .running 0 9) (waiting (.control (frame 0 false)))
    s.nextLine = some 0 ∧ (s.console.get 0).assembler = .waiting (.control (frame 0 false)) ∧ (frame 0 false).request = none
      ∧ (s.stationEntry 0).team ≠ 0 ∧ s.findSlot 0 (frame 0 false).selector = some 0 ∧ (s.stations.get 0).stopLatch = false
      ∧ s.testMode 0 = false ∧ s.profileInForce (s.slotHalf 0) = some ((bank false).profiles.get 0)
      ∧ ((bank false).profiles.get 0).driveAdmit = true := by decide +kernel
theorem witness_control_stopped :
    let s := (withLine (playing .running 0 9) (waiting (.control (frame 0 false)))).setStation 0 fun x => { x with stopLatch := true }
    s.nextLine = some 0 ∧ (s.console.get 0).assembler = .waiting (.control (frame 0 false)) ∧ (s.stationEntry 0).team ≠ 0
      ∧ s.findSlot 0 (frame 0 false).selector = some 0 ∧ (s.stations.get 0).stopLatch = true := by decide +kernel
theorem witness_control_absent :
    let s := withLine State.reset (waiting (.control (frame 0 true)))
    s.nextLine = some 0 ∧ (s.console.get 0).assembler = .waiting (.control (frame 0 true)) ∧ (s.stationEntry 0).team = 0 := by
  decide +kernel

/-- A claim of element 0 by station 0 that finds the element with a given claim. -/
def claiming (x : Claim) : State :=
  withClaim (withElement (withLine (playing .running 0 9) (waiting (.control (frame 5 true)))) .shared .off) x

theorem witness_claim :
    let s := claiming Claim.empty
    s.nextLine = some 0 ∧ (s.console.get 0).assembler = .waiting (.control (frame 5 true))
      ∧ (frame 5 true).request = some ⟨num8 (0 : Fin 32).val, .claim, 0, 0⟩ ∧ (s.stationEntry 0).team ≠ 0
      ∧ s.findSlot 0 (frame 5 true).selector = none ∧ (s.stations.get 0).stopLatch = false ∧ s.elementHalf 0 = s.stationHalf 0
      ∧ (s.entries.get 0).enabled = true ∧ (s.elements.get 0).online ≠ .offline ∧ s.elementPhase 0 = true
      ∧ (s.entries.get 0).owner = .shared ∧ (s.console.get 0).queue.length < 4 ∧ (s.claims.get 0).holder = none := by decide +kernel
theorem witness_claim_queues : ∀ w, w = [4, 2, 3] ∨ w = [4, 2, 3, 5] →
    let s := claiming { Claim.empty with holder := some 1, waiters := w }
    s.nextLine = some 0 ∧ s.elementPhase 0 = true ∧ (s.claims.get 0).holder = some 1 ∧ (0 : Fin 12) ∉ (s.claims.get 0).waiters
      ∧ (s.claims.get 0).waiters = w := by
  rintro w (rfl | rfl) <;> decide +kernel

/-- The element request of station 0 for an element, in a frame whose selector finds no slot. -/
def asking (r : ElementRequest) (s : State) : State :=
  withLine s (waiting (.control { frame 5 false with request := some r }))

theorem witness_requests_served : ∀ a, (asking ⟨0, a, 1, 0⟩ (playing .running 0 9)).Requests 0
    { frame 5 false with request := some ⟨0, a, 1, 0⟩ } ⟨0, a, 1, 0⟩ := fun a =>
  ⟨by cases a <;> decide +kernel, rfl, rfl, by cases a <;> decide +kernel⟩
theorem witness_requests_formed :
    let s := claiming { Claim.empty with holder := some 0, waiters := [1] }
    ∀ e, (s.claims.get e).holder = some 0 → (0 : Fin 12) ∉ (s.claims.get e).waiters := by decide +kernel

/-- Checks 1 to 6 of R138: the element one beyond the last, the output one beyond the last, and each reason of a refusal. -/
theorem witness_denied :
    let free := withElement (playing .running 0 9) .shared .off
    32 ≤ (32 : Byte).toNat ∧ 2 ≤ (2 : Byte).toNat
      ∧ (free.setStation 0 fun x => { x with stopLatch := true }).RefusedFor 0 0 .claim .stopped
      ∧ { free with split := true }.RefusedFor 0 31 .claim .half
      ∧ (playing .running 0 9).RefusedFor 0 0 .claim .offline
      ∧ (free.setElement 0 fun x => { x with online := .offline }).RefusedFor 0 0 .claim .offline
      ∧ (withElement (playing .paused 0 9) .shared .off).RefusedFor 0 0 .release .phase
      ∧ (withElement (playing .running 0 9) .red .off).RefusedFor 0 0 .claim .owner
      ∧ (withElement (playing .running 0 9) .blue .off).RefusedFor 0 0 .actuate .owner := by
  have red : ((withElement (playing .running 0 9) .red .off).entries.get 0).owner = .red := by decide +kernel
  have blue : ((withElement (playing .running 0 9) .blue .off).entries.get 0).owner = .blue := by decide +kernel
  simp only [State.RefusedFor, State.PhaseAdmits, OwnerAdmits, red, blue]
  decide +kernel
theorem witness_admitted : ∀ why, ¬ (withElement (playing .running 0 9) .shared .off).RefusedFor 0 0 .claim why
    ∧ ¬ (withElement (playing .running 0 9) .red .off).RefusedFor 0 0 .actuate why := by
  have shared : ((withElement (playing .running 0 9) .shared .off).entries.get 0).owner = .shared := by decide +kernel
  have red : ((withElement (playing .running 0 9) .red .off).entries.get 0).owner = .red := by decide +kernel
  intro why
  cases why <;> simp only [State.RefusedFor, State.PhaseAdmits, OwnerAdmits, shared, red] <;> decide +kernel

/-- Claims past the checks: a holder with a waiter, waiters at two places, a full wait list, and neither. -/
theorem witness_claim_states :
    ((claiming { Claim.empty with holder := some 0, waiters := [1] }).claims.get 0).waiters = 1 :: []
    ∧ ((claiming { Claim.empty with holder := some 1, waiters := [2, 0, 3] }).claims.get 0).waiters = [2] ++ 0 :: [3]
    ∧ (0 : Fin 12) ∉ [(2 : Fin 12)] ∧ (some (1 : Fin 12)) ≠ some 0
    ∧ 4 ≤ ((claiming { Claim.empty with holder := some 1, waiters := [2, 3, 4, 5] }).claims.get 0).waiters.length
    ∧ (0 : Fin 12) ∉ ((claiming { Claim.empty with holder := some 1, waiters := [2, 3, 4, 5] }).claims.get 0).waiters := by
  decide +kernel

/-- Full transmit queues: TELEMETRY behind the first frame, and none; one below full. A selector's TELEMETRY that has not begun,
and one that has. -/
theorem witness_placed :
    let f (k : Fin 2) : ConsoleOut := .telemetry k 0 0 []
    let r : ConsoleOut := .elementReply 0 .done
    [f 0, r, f 1, r] = f 0 :: [r] ++ f 1 :: [r] ∧ (f 1).isTelemetry = true ∧ (∀ y ∈ [r], y.isTelemetry = false)
      ∧ (∀ y ∈ [f 0, r, r, r].tail, y.isTelemetry = false) ∧ 4 ≤ [f 0, r, r, r].length ∧ [r, r, r].length < 4
      ∧ (∀ y ∈ [r], y.isTelemetryOf 1 = false) ∧ (f 1).isTelemetryOf 1 = true
      ∧ (∀ y ∈ [f 1, r, f 0, r].tail, y.isTelemetryOf 1 = false) := by decide +kernel

theorem witness_ping :
    let s := withLine (playing .running 0 9) (waiting .ping)
    s.nextLine = some 0 ∧ (s.console.get 0).assembler = .waiting .ping ∧ (s.console.get 0).queue.length < 4 := by decide +kernel

theorem witness_silence : (((playing .running 0 9).setStation 0 fun x => { x with silence := some 1 }).stations.get 0).silence ≠ none := by
  decide +kernel

/-- A waiting line with 15 entries, one with 16, a line in break, a hunting line, a frame in assembly. -/
theorem witness_character :
    ((withLine State.reset { waiting .ping with fifo := List.replicate 15 ⟨0, false, .empty⟩ }).console.get 0).fifo.length < 16
    ∧ (full.console.get 0).breakPresent = false ∧ (full.console.get 0).assembler = .waiting .ping ∧ (full.console.get 0).fifo.length = 16
    ∧ ((withLine State.reset { ConsoleLine.reset with breakPresent := true }).console.get 0).breakPresent = true
    ∧ (State.reset.console.get 0).breakPresent = false ∧ (State.reset.console.get 0).assembler = .hunting
    ∧ (State.reset.console.get 0).fifo = [] ∧ (State.reset.console.get 0).gapRaised = false
    ∧ ((withLine State.reset { ConsoleLine.reset with assembler := .assembling [0x7E] false }).console.get 0).assembler
      = .assembling [0x7E] false := by decide +kernel

/-- Frames in assembly: the sync byte alone; a byte short of the check byte; a whole PING and a whole CONTROL frame, each with its
check byte; the lengths 1 and 32, 0 and 33; a boundary before the character. -/
theorem witness_assembly :
    let s (bytes : List Byte) (pend : Boundaries) : State :=
      withLine State.reset { ConsoleLine.reset with assembler := .assembling bytes false, pending := pend }
    ((s [0x7E] .empty).console.get 0).assembler = .assembling [0x7E] false ∧ (1 ≤ (1 : Byte).toNat ∧ (32 : Byte).toNat ≤ 32)
      ∧ ¬ (1 ≤ (0 : Byte).toNat) ∧ ¬ ((33 : Byte).toNat ≤ 32) ∧ ([] : List Byte).length < (1 : Byte).toNat
      ∧ ([] : List Byte).length + 1 = (1 : Byte).toNat ∧ sum8 ([0x7E, 1, 2] ++ [0x7F]) = 0 ∧ sum8 ([0x7E, 1, 2] ++ [0x7E]) ≠ 0
      ∧ (20 : Byte).toNat = ((0 : Byte) :: Tab.toList (Tab.fill 0 : Tab 12 Byte) ++ [0, 1, 3, 3, 1, 9]).length + 1
      ∧ sum8 ((0x7E : Byte) :: 20 :: 1 :: 0 :: Tab.toList (Tab.fill 0 : Tab 12 Byte) ++ [0, 1, 3, 3, 1, 9] ++ [0x5C]) = 0
      ∧ ((s [0x7E, 1, 2] { Boundaries.empty with brk := true }).console.get 0).pending.brk = true
      ∧ ((s [0x7E, 1, 2] { Boundaries.empty with gap := true }).console.get 0).pending.brk = false
      ∧ ((s [0x7E, 1, 2] { Boundaries.empty with gap := true }).console.get 0).pending.gap = true
      ∧ ((s [0x7E, 1, 2] { Boundaries.empty with loss := true }).console.get 0).pending.loss = true := by decide +kernel

theorem witness_breakStart :
    let s := withClaim (withElement (playing .running 0 9) .shared .off) { Claim.empty with holder := some 0, waiters := [1] }
    (s.console.get 0).breakPresent = false ∧ (s.stations.get 0).stopLatch = false ∧ (s.slotEntry 0).station = some 0
      ∧ (s.claims.get 0).holder = some 0 ∧ (0 : Fin 12) ∉ (s.claims.get 0).waiters
      ∧ ((s.setStation 0 fun x => { x with stopLatch := true }).stations.get 0).stopLatch = true := by decide +kernel

theorem witness_breakEnd :
    ((withLine State.reset { ConsoleLine.reset with breakPresent := true, gapRaised := true }).console.get 0).breakPresent = true
    ∧ (full.console.get 0).queue = .elementReply 0 .done :: List.replicate 3 (.elementReply 0 .done) := by decide +kernel

theorem witness_applyLink : (∃ h, ((playing .ended 0 0).clocks.get h).state ≠ .idle ∧ ((playing .ended 0 0).clocks.get h).state ≠ .armed)
    ∧ ∀ h, ((playing .armed 0 0).clocks.get h).state = .idle ∨ ((playing .armed 0 0).clocks.get h).state = .armed :=
  ⟨⟨.a, by decide +kernel⟩, both (by decide +kernel) (by decide +kernel)⟩

theorem witness_downlink :
    let s := withPart (playing .running 0 9) .beacon [0, 5]
    s.radio.part = .beacon ∧ s.radio.toCome = [0, 5] ∧ s.permission 0 = .none ∧ s.driveAdmitted 0 = true
      ∧ ((stopped s).clocks.get ((stopped s).slotHalf 0)).fieldStop = true ∧ (stopped s).radio.toCome = [0, 5] := by decide +kernel

theorem witness_window :
    let s := withPart (playing .running 0 9) (.window 0 false false) []
    s.radio.part = .window 0 false false ∧ (s.links.get 0).state = .linked ∧ (List.replicate 12 (0 : Byte)).length ≤ 12 := by
  decide +kernel

/-- A slot of a present station, a slot of an absent one, and a slot of none. -/
theorem witness_telemetry :
    ((playing .running 0 9).slotEntry 0).station = some 0 ∧ ((playing .running 0 9).stationEntry 0).team ≠ 0
      ∧ ((playing .running 0 9).stationEntry 11).team = 0 ∧ ((playing .running 0 9).slotEntry 23).station = none := by decide +kernel

theorem witness_join : let s := withPart (playing .running 0 9) .join []
    s.radio.part = .join ∧ ((s.active .a).slots.get 0).kit = 0x11223344 ∧ s.slotHalf 0 = .a ∧ (s.links.get 0).state ≠ .vacant
      ∧ (∀ a ∈ s.radio.answers, a.kit ≠ 0x11223344) := by decide +kernel
theorem witness_join_unique : ∀ g j, (((withPart (playing .running 0 9) .join []).active g).slots.get j).kit = 0x11223344 → g = .a ∧ j = 0 :=
  both (by decide +kernel) (by decide +kernel)
theorem witness_join_answered : let s := (withPart (playing .running 0 9) .join []).setRadio fun r => { r with answers := [⟨0x11223344, 0⟩] }
    s.radio.part = .join ∧ ∃ a ∈ s.radio.answers, a.kit = 0x11223344 := by decide +kernel

/-- A damaged frame; JOINs of another arena and outside the window; REPLYs outside a window and after the one accepted. -/
theorem witness_stray : (withCrc (([1, 2, 3] : List Byte).take 1) ≠ [1, 2, 3]) ∧ State.reset.radio.part ≠ .join
    ∧ (withPart State.reset .join []).radio.part = .join ∧ (9 : Byte) ≠ (withPart State.reset .join []).radio.profile.arena
    ∧ (withPart State.reset (.window 0 true false) []).radio.part = .window 0 true false := by decide +kernel
theorem witness_stray_reply : ∀ i seen good, (withPart State.reset .join []).radio.part ≠ .window i seen good := by
  intro i seen good h
  cases h
theorem witness_stray_join : ∀ h j, (((withPart State.reset .join []).active h).slots.get j).kit ≠ 0x11223344 :=
  both (by decide +kernel) (by decide +kernel)

theorem witness_liveness : ((playing .running 0 9).links.get 0).state = .linked ∧ ((playing .running 0 9).links.get 0).liveness ≠ none := by
  decide +kernel

/-- A field element with a credit alliance, a shared one with a hold limit at its bound, and a poll in flight. -/
theorem witness_elementWrite : (State.reset.clocks.get (State.reset.elementHalf 31)).state.started = false
    ∧ ((some Alliance.red = none) ∨ Owner.field = .field) ∧ (((0 : BitVec 16) = 0 ∧ (0 : Byte) = 0) ∨ Owner.field = .shared)
    ∧ ((none : Option Alliance) = none ∨ Owner.shared = .field) ∧ (6000#16).toNat ≤ 6000
    ∧ (withBus State.reset fun b => { b with inFlight := .poll 31 false }).bus.inFlight = .poll 31 false
    ∧ ((playing .running 0 9).clocks.get ((playing .running 0 9).elementHalf 31)).state.started = true := by decide +kernel

theorem witness_output :
    let s := withElement (playing .running 0 9) .field .off
    (s.entries.get 0).enabled = true ∧ (s.clocks.get (s.elementHalf 0)).fieldStop = false ∧ (s.outputs.get 0).get 1 = .level 0
      ∧ (State.reset.entries.get 0).enabled = false
      ∧ ((s.setOutput 0 1 fun _ => .pulse (some 1)).outputs.get 0).get 1 = .pulse (some 1)
      ∧ ((s.setOutput 0 0 fun _ => .blink (some 99)).outputs.get 0).get 0 = .blink (some 99)
      ∧ ((s.setOutput 0 0 fun _ => .toggle true).outputs.get 0).get 0 = .toggle true := by decide +kernel

/-- R119: a void answer of a sweep. -/
theorem witness_void : let s := withBus State.reset fun b => { b with sweeping := true, position := some 31, inFlight := .poll 31 true }
    s.bus.inFlight = .poll 31 true ∧ s.bus.requested = s.bus.actual := by decide +kernel

/-- R132: a sweep that waits under a period of 10 ms, 10 ms into the one in progress, is not due under 50 ms, and is under 5. -/
theorem test_period_rejudges :
    let s := withBus State.reset fun b => { b with sweeping := true, due := true, elapsed := 10 }
    (after [.busMode 1 0 50] s).bus.due = false ∧ (after [.busMode 1 0 5] s).bus.due = true := by decide +kernel

theorem witness_busMode : 2 ≤ (2 : Byte).toNat ∧ State.reset.bus.inFlight = .none ∧ State.reset.bus.actual = .auto
    ∧ (withBus State.reset fun b => { b with actual := .manual }).bus.actual = .manual
    ∧ (withBus State.reset fun b => { b with inFlight := .poll 0 false }).bus.inFlight ≠ .none := by decide +kernel

theorem witness_sweep : let s := withBus State.reset fun b => { b with resetWait := false }
    s.bus.actual = .auto ∧ s.bus.resetWait = false ∧ s.bus.sweeping = false
      ∧ (withBus s fun b => { b with sweeping := true }).bus.sweeping = true ∧ State.reset.bus.resetWait = true := by decide +kernel

/-- The first element of a sweep, and one after the sweep position. -/
theorem witness_poll :
    let s := withBus (withElement State.reset .field .off) fun b => { b with resetWait := false, sweeping := true }
    s.bus.actual = .auto ∧ s.bus.resetWait = false ∧ s.bus.sweeping = true ∧ s.bus.inFlight = .none ∧ (s.entries.get 0).enabled = true
      ∧ s.bus.position = none ∧ (∀ x : Fin 32, ¬ x < 0) ∧ (s.clocks.get (s.elementHalf 0)).fieldStop = false
      ∧ (s.outputs.get 0).get 0 = .level 0 ∧ ((stopped s).clocks.get ((stopped s).elementHalf 0)).fieldStop = true := by decide +kernel
/-- Outputs of each mode, ACTIVE or ON and not, at the last on millisecond and the first off one. -/
theorem witness_poll_outputs :
    let s (x : OutputState) := withElement State.reset .field .off |>.setOutput 0 1 fun _ => x
    ∀ x ∈ [OutputState.pulse none, .pulse (some 1), .toggle false, .toggle true, .blink none, .blink (some 49), .blink (some 50)],
      ((s x).outputs.get 0).get 1 = x ∧ ((s x).clocks.get ((s x).elementHalf 0)).fieldStop = false := by decide +kernel
theorem witness_poll_later :
    let s := withBus { State.reset with entries := .fill { ElementEntry.empty with enabled := true } } fun b =>
      { b with resetWait := false, sweeping := true, position := some 30 }
    s.bus.position = some 30 ∧ (30 : Fin 32) < 31 ∧ (s.entries.get 31).enabled = true ∧ ∀ x : Fin 32, x < 31 → x ≤ 30 := by decide +kernel

/-- A good answer of element 0 with counter 1, sensors OFF and COUNT. -/
theorem witness_answer :
    let s := withBus (withElement (playing .running 0 9) .red .count) fun b => { b with inFlight := .poll 0 false }
    s.bus.inFlight = .poll 0 false ∧ num8 ((0 : Fin 32).val + 1) + (0 : Byte) + 1 + 0 + 0xFE = 0
      ∧ ((s.entries.get 0).sensors.get 0).mode = .count ∧ ((s.entries.get 0).sensors.get 1).mode = .off
      ∧ (s.entries.get 0).owner = .red ∧ s.bus.requested = s.bus.actual
      ∧ ∀ k, (((withElement s .field .off).entries.get 0).sensors.get k).mode = .off := by decide +kernel

/-- A LEVEL sensor of an ONLINE element, the other OFF; a waiting event of it behind another record, one of the other sensor, and one
in transmission. -/
theorem witness_level :
    let s := withBus (withElement (playing .running 0 9) .field .level) fun b => { b with inFlight := .poll 0 false }
    let s := s.setElement 0 fun x => { x with online := .online }
    let event (k : Fin 2) : Report := .elementEvent 0 k 200 .high false 0
    (∀ j, j ≠ 0 → ((s.entries.get 0).sensors.get j).mode = .off) ∧ ((s.entries.get 0).sensors.get 0).mode ≠ .off
      ∧ (s.elements.get 0).online = .online ∧ s.bus.inFlight = .poll 0 false ∧ s.bus.requested = s.bus.actual
      ∧ ((s.sensors.get 0).get 0).level = .unknown ∧ num8 ((0 : Fin 32).val + 1) + (1 : Byte) + 0 + 0 + 0xFE = 0
      ∧ [⟨3, .busMode .auto⟩, ⟨4, event 0⟩] = [⟨3, .busMode .auto⟩] ++ (⟨4, .elementEvent 0 0 200 .high false 0⟩ : Record) :: []
      ∧ (∀ r ∈ [(⟨3, .busMode .auto⟩ : Record), ⟨4, event 1⟩], r.report.isEvent 0 0 = false)
      ∧ (event 0).isEvent 0 0 = true ∧ ([⟨4, event 0⟩] : List Record).tail = [] := by decide +kernel

/-- R155, R158: a LEVEL sensor that differs from its last level counts one change and scores nothing. -/
theorem test_level_sensor :
    let s := withBus (withElement (playing .running 0 9) .red .level) fun b => { b with inFlight := .poll 0 false }
    let s := { s with sensors := s.sensors.set 0 (.fill { Sensor.reset with level := .low }) }
    let t := after [.pollEnd (some ⟨[1, 1, 0, 0, 0xFE], false⟩)] s
    ((t.sensors.get 0).get 0).count = 1 ∧ ((t.sensors.get 0).get 0).captured = true ∧ t.scores.a = ⟨0, 0⟩ := by decide +kernel

/-- Answers that are not good: of 5 bytes with a bad stop bit, of 4 bytes, of a wrong sum, of another address; a good one; an
OFFLINE element that is polled. -/
theorem witness_bad_answers :
    (⟨[1, 0, 0, 0, 0xFF], true⟩ : BusFrame).stopBad = true ∧ [1, 0, 0, (0xFF : Byte)].length ≠ 5
      ∧ sum8 [1, 0, 0, 0, 0xFE] ≠ 0 ∧ ([2, 0, 0, 0, (0xFE : Byte)]).head? ≠ some (num8 ((0 : Fin 32).val + 1))
      ∧ num8 ((0 : Fin 32).val + 1) + (0 : Byte) + 0 + 0 + 0xFF = 0
      ∧ let s := (withBus (withElement State.reset .field .off) fun b => { b with resetWait := false, sweeping := true }).setElement 0
          fun x => { x with online := .offline, misses := 3 }
        (s.elements.get 0).online = .offline ∧ s.bus.actual = .auto ∧ s.bus.sweeping = true ∧ s.bus.inFlight = .none
          ∧ (s.entries.get 0).enabled = true ∧ s.bus.position = none := by decide +kernel

/-- One miss before the last, and the last. -/
theorem witness_missed :
    let s := withBus (withElement State.reset .shared .off) fun b => { b with inFlight := .poll 0 false }
    let one := s.setElement 0 fun x => { x with misses := 1 }
    let two := s.setElement 0 fun x => { x with misses := 2 }
    s.bus.inFlight = .poll 0 false ∧ s.bus.requested = s.bus.actual ∧ (one.elements.get 0).misses < 2
      ∧ (one.elements.get 0).online ≠ .offline ∧ (two.elements.get 0).misses = 2 ∧ (two.elements.get 0).online ≠ .offline
      ∧ ((s.setElement 0 fun x => { x with online := .offline }).elements.get 0).online = .offline
      ∧ ((withClaim s { Claim.empty with holder := some 0, waiters := [1] }).claims.get 0).waiters ≠ [] := by decide +kernel

theorem witness_strayBytes : State.reset.bus.inFlight = .none
    ∧ (withBus State.reset fun b => { b with resetWait := false }).bus.resetWait = false := ⟨rfl, rfl⟩

/-- Addresses 1 and 32 with 1 and 8 bytes and an expected length of 8; address 33. -/
theorem witness_pass :
    let s := withBus State.reset fun b => { b with requested := .manual, actual := .manual }
    let p := withBus s fun b => { b with inFlight := .pass 7 1 2 }
    s.trunk.replies = [] ∧ s.trunk.buffer = [] ∧ s.bus.actual = .manual ∧ s.bus.inFlight = .none
      ∧ 1 ≤ (1 : Byte).toNat ∧ (32 : Byte).toNat ≤ 32 ∧ (8 : Byte).toNat ≤ 8 ∧ ([0] : List Byte).length = (1 : Byte).toNat
      ∧ (List.replicate 8 (0 : Byte)).length = (8 : Byte).toNat ∧ State.reset.bus.actual = .auto
      ∧ p.bus.actual = .manual ∧ p.bus.inFlight = .pass 7 1 2 ∧ ¬ ((33 : Byte).toNat ≤ 32) := by decide +kernel
theorem witness_passEnd :
    let p := withBus State.reset fun b => { b with requested := .manual, actual := .manual, inFlight := .pass 7 1 2 }
    p.bus.inFlight = .pass 7 1 2 ∧ p.trunk.buffer = [] ∧ p.trunk.tx = .idle ∧ p.trunk.replies = [] ∧ p.bus.requested = p.bus.actual
      ∧ p.bus.sweeping = false ∧ ([3, 4] : List Byte).length = (2 : Byte).toNat ∧ sum8 ((1 : Byte) :: [3, 4] ++ [0xF8]) = 0
      ∧ (withBus p fun b => { b with inFlight := .pass 7 1 0 }).bus.inFlight = .pass 7 1 0 := by decide +kernel

theorem witness_holdExpiry :
    let s := claiming { Claim.empty with holder := some 1, waiters := [2], timer := some 1 }
    (s.clocks.get (s.elementHalf 0)).state = .running ∧ (s.claims.get 0).timer = some 1 ∧ (s.claims.get 0).holder = some 1
      ∧ (s.claims.get 0).waiters = [2]
      ∧ ((claiming { Claim.empty with holder := some 1, timer := some 1 }).claims.get 0).waiters = []
      ∧ (State.reset.claims.get 0).holder = none ∧ (State.reset.claims.get 0).waiters = [] := by decide +kernel

theorem witness_scoreAdjust : ((2 : Byte) ≠ 0 ∧ (2 : Byte) ≠ 1) ∧ (0 : Byte) = codeHalf .a ∧ ((3 : Byte) ≠ 1 ∧ (3 : Byte) ≠ 2)
    ∧ ((0 : Byte) ≠ 1 ∧ (0 : Byte) ≠ 2) ∧ State.reset.split = false
    ∧ (State.reset.clocks.get .a).state = .idle ∧ ((playing .ended 0 0).clocks.get .a).state ≠ .idle := by decide +kernel

end Sys2Proof.Tests
end

section
/-! PROOFS. What a request's row does on a ready trunk port, and where the clock commands are refused (chapters 1 and 2). -/

namespace Sys2Proof.Machine

/-! ## Requests on a ready trunk port (R167 to R169) -/

theorem tab_build_eq {n : Nat} {α : Type} {t : Tab n α} {f : Fin n → α} (h : ∀ i, f i = t.get i) : Tab.build f = t :=
  Tab.ext fun i => (Tab.get_build f i).trans (h i)

/-- A WRITE frame carries its table write (R167, chapter 11). -/
theorem parse_write (tag : Byte) (w : TableWrite) : parseRequest ((Request.write w).frame tag) = .ok (.write w) := by
  cases w with
  | schedule clock index r =>
    simp [Request.frame, parseRequest, parseWrite, TableWrite.table, TableWrite.bytes, ReadTable.recordLength, readWrite,
      byteAt, wordAt, bytes16, Tab.toList, phaseRecordBytes, List.finRange_succ]
    exact tab_build_eq fun j => by fin_cases j <;> simp
  | element clock index r =>
    obtain ⟨enabled, owner, credit, mask, limit, points, sensors, outputs⟩ := r
    simp [Request.frame, parseRequest, parseWrite, TableWrite.table, TableWrite.bytes, ReadTable.recordLength, readWrite,
      byteAt, wordAt, bytes16, Tab.toList, List.finRange_succ]
    exact ⟨tab_build_eq fun k => by fin_cases k <;> rfl, tab_build_eq fun k => by fin_cases k <;> rfl⟩
  | _ =>
    simp [Request.frame, parseRequest, parseWrite, TableWrite.table, TableWrite.bytes, ReadTable.recordLength, readWrite,
      byteAt, wordAt, bytes16, bytes24, bytes32]

/-- A WRITE on a ready trunk port is judged at once. -/
theorem State.submit_write {s : State} (hs : s.Ready) (tag : Byte) (w : TableWrite) :
    s.submit tag (.write w) = s.counted.carryOut tag (w.verdict s.counted) := by
  have hl : ((Request.write w).frame tag).body.length + 2 ≤ 255 := by
    cases w <;>
      simp [Request.frame, TableWrite.bytes, bytes16, bytes24, bytes32, Tab.toList, phaseRecordBytes, List.finRange_succ]
  exact State.submit_ready hs (by simp [Request.frame]) hl (parse_write tag w)

@[simp] theorem State.counted_answer (s : State) (tag : Byte) (code : ResultCode) :
    s.counted.answer tag code [] = s.replied tag code := rfl

/-- R9 check 1, R27: an accepted frame that names a clock in play goes on to the checks behind its clock operand. -/
theorem State.carryOut_clock {s : State} {h : Half} (hh : h = .a ∨ s.split = true) (tag : Byte) (k : Half → Verdict) :
    s.counted.carryOut tag (s.counted.clockOperand (codeHalf h) k) = s.counted.carryOut tag (k h) := by
  have hc : h = .a ∨ s.counted.split = true := by simpa using hh
  rw [State.clockOperand_code, if_pos hc]

/-! ## The refusals of clock commands (R16, R27 to R34, R38, R39) -/

/-- A command whose first operand is a clock or half, for a clock in play. -/
theorem State.submit_clock {s : State} {tag : Byte} {h : Half} {c : Command} {k : Half → Verdict} (hs : s.Ready)
    (hh : h = .a ∨ s.split = true)
    (hc : s.counted.serveCommand tag c = s.counted.carryOut tag (s.counted.clockOperand (codeHalf h) k)) :
    s.submit tag (.command c) = s.counted.carryOut tag (k h) := by
  rw [State.submit_command hs, hc, State.carryOut_clock hh]

/-- R39: outside split mode a command that names clock B or half B is refused. -/
theorem State.submit_clockB {s : State} {tag : Byte} {c : Command} {k : Half → Verdict} (hs : s.Ready) (hb : s.split = false)
    (hc : s.counted.serveCommand tag c = s.counted.carryOut tag (s.counted.clockOperand 1 k)) :
    s.submit tag (.command c) = s.replied tag .wrongState := by
  have hv : s.counted.clockOperand (codeHalf .b) k = .refuse .wrongState := by
    rw [State.clockOperand_code, if_neg (by simp [hb])]
  rw [State.submit_command hs, hc, show (1 : Byte) = codeHalf .b from rfl, hv, State.carryOut_refuse, State.counted_answer]

theorem byte_ne_of_two_le {b : Byte} (hb : 2 ≤ b.toNat) : b ≠ 0 ∧ b ≠ 1 := by bv_omega

theorem decodeHalf_none {b : Byte} (hb : 2 ≤ b.toNat) : decodeHalf b = none := by
  obtain ⟨h0, h1⟩ := byte_ne_of_two_le hb
  rw [decodeHalf, if_neg h0, if_neg h1]

theorem decodeYN_none {b : Byte} (hb : 2 ≤ b.toNat) : decodeYN b = none := by
  obtain ⟨h0, h1⟩ := byte_ne_of_two_le hb
  rw [decodeYN, if_neg h0, if_neg h1]

theorem decodeYN_some {b : Byte} (hb : b.toNat ≤ 1) : ∃ v, decodeYN b = some v := by
  have hb' : b = 0 ∨ b = 1 := by bv_omega
  rcases hb' with rfl | rfl
  · exact ⟨false, rfl⟩
  · exact ⟨true, rfl⟩

/-- R27: a command with a clock code other than A or B is refused. -/
theorem State.submit_badClock {s : State} {tag b : Byte} {c : Command} {k : Half → Verdict} (hs : s.Ready) (hb : 2 ≤ b.toNat)
    (hc : s.counted.serveCommand tag c = s.counted.carryOut tag (s.counted.clockOperand b k)) :
    s.submit tag (.command c) = s.replied tag .badValue := by
  rw [State.submit_command hs, hc, State.clockOperand, decodeHalf_none hb, Verdict.need_none, State.carryOut_refuse,
    State.counted_answer]

/-- R14: the lock's core is a matter of the tables alone. -/
theorem State.lockCore_congr {s t : State} (e : t.tables = s.tables) (h : Half) : t.lockCore h = s.lockCore h := by
  simp only [State.lockCore, e]

@[simp] theorem State.counted_lockCore (s : State) (h : Half) : s.counted.lockCore h = s.lockCore h :=
  State.lockCore_congr (by simp) h

/-- R16: what TURNOVER answers. -/
theorem State.submit_turnover {s : State} {h : Half} (hs : s.Ready) (hh : h = .a ∨ s.split = true) (tag : Byte) :
    s.submit tag (.command (.turnover (codeHalf h))) =
      if (s.clocks.get h).state.started = true then s.replied tag .wrongState
      else if s.lockCore h = false then s.replied tag .notReady else (s.replied tag .ok).turnover h := by
  rw [State.submit_clock hs hh rfl]
  cases hc : (s.clocks.get h).state.started <;> cases hl : s.lockCore h <;> simp [hc, hl]

/-- R28: what START answers. -/
theorem State.submit_start {s : State} {h : Half} (hs : s.Ready) (hh : h = .a ∨ s.split = true) (tag : Byte) :
    s.submit tag (.command (.start (codeHalf h))) =
      if (s.clocks.get h).state = .armed then
        if (s.clocks.get h).fieldStop = true then s.replied tag .stillAsserted else (s.replied tag .ok).startMatch h
      else s.replied tag .wrongState := by
  rw [State.submit_clock hs hh rfl]
  by_cases hc : (s.clocks.get h).state = .armed <;> cases hf : (s.clocks.get h).fieldStop <;> simp [hc, hf]

/-- R31: what ADVANCE answers. -/
theorem State.submit_advance {s : State} {h : Half} (hs : s.Ready) (hh : h = .a ∨ s.split = true) (tag : Byte) :
    s.submit tag (.command (.advance (codeHalf h))) =
      if (s.clocks.get h).state.started = true then
        ((s.replied tag .ok).setClock h fun c => { c with tenthPos := 0 }).endPhase h
      else s.replied tag .wrongState := by
  rw [State.submit_clock hs hh rfl]
  cases hc : (s.clocks.get h).state.started <;> simp [hc]

/-- R32: what ABORT answers. -/
theorem State.submit_abort {s : State} {h : Half} (hs : s.Ready) (hh : h = .a ∨ s.split = true) (tag : Byte) :
    s.submit tag (.command (.abort (codeHalf h))) =
      if (s.clocks.get h).state.started = true then (s.replied tag .ok).endMatch h else s.replied tag .wrongState := by
  rw [State.submit_clock hs hh rfl]
  cases hc : (s.clocks.get h).state.started <;> simp [hc]

/-- R33: REPLAY is refused before a match has been started. -/
theorem State.submit_replay_early {s : State} {h : Half} (hs : s.Ready) (hh : h = .a ∨ s.split = true)
    (hc : (s.clocks.get h).state = .idle ∨ (s.clocks.get h).state = .armed) (tag : Byte) :
    s.submit tag (.command (.replay (codeHalf h))) = s.replied tag .wrongState := by
  rw [State.submit_clock hs hh rfl]
  rcases hc with hc | hc <;> simp [hc, ClockState.started]

/-- R34: what CLEAR answers. -/
theorem State.submit_clear {s : State} {h : Half} (hs : s.Ready) (hh : h = .a ∨ s.split = true) (tag : Byte) :
    s.submit tag (.command (.clear (codeHalf h))) =
      if (s.clocks.get h).state.started = true then s.replied tag .wrongState else (s.replied tag .ok).clearMatch h := by
  rw [State.submit_clock hs hh rfl]
  cases hc : (s.clocks.get h).state.started <;> simp [hc]

/-- R38: SPLIT_SET is refused for a value other than on and off. -/
theorem State.submit_splitSet_badValue {s : State} {value : Byte} (hs : s.Ready) (hv : 2 ≤ value.toNat) (tag : Byte) :
    s.submit tag (.command (.splitSet value)) = s.replied tag .badValue := by
  rw [State.submit_command hs, State.serveCommand, splitSetVerdict, decodeYN_none hv, Verdict.need_none,
    State.carryOut_refuse, State.counted_answer]

/-- R38: SPLIT_SET is refused with a clock outside IDLE. -/
theorem State.submit_splitSet_busy {s : State} {value : Byte} {h : Half} (hs : s.Ready) (hv : value.toNat ≤ 1)
    (hc : (s.clocks.get h).state ≠ .idle) (tag : Byte) :
    s.submit tag (.command (.splitSet value)) = s.replied tag .wrongState := by
  obtain ⟨v, hv⟩ := decodeYN_some hv
  have busy : (decide (s.counted.clocks.a.state = .idle) && decide (s.counted.clocks.b.state = .idle)) = false := by
    cases h <;> simp_all [PerHalf.get]
  rw [State.submit_command hs, State.serveCommand, splitSetVerdict, hv, Verdict.need_some, busy, Verdict.require_false,
    State.carryOut_refuse, State.counted_answer]

/-- Settles O22: every such command stops at a check of its owner, and only its REPLY is formed. -/
theorem clockCommandsAreRefused : Obligations.ClockCommandsAreRefused := by
  refine ⟨fun s tag h hs hh => ⟨fun hc => congrArg Host.Outcome.next ?turnoverStarted,
      fun hc hl => congrArg Host.Outcome.next ?turnoverUnlocked⟩,
    fun s tag h hs hh => ⟨fun hc => congrArg Host.Outcome.next ?startEarly,
      fun hc hf => congrArg Host.Outcome.next ?startStopped⟩,
    fun s tag hs hb => ?clockB,
    fun s tag h hs hh => ⟨fun hc => ⟨congrArg Host.Outcome.next ?advance, congrArg Host.Outcome.next ?abort⟩,
      fun hc => congrArg Host.Outcome.next (State.submit_replay_early hs hh hc tag),
      fun hc => congrArg Host.Outcome.next ?clear⟩,
    fun s tag value hs => ⟨fun hv => ⟨congrArg Host.Outcome.next (State.submit_splitSet_badValue hs hv tag), ?badClock⟩,
      fun hv ⟨h, hc⟩ => congrArg Host.Outcome.next (State.submit_splitSet_busy hs hv hc tag)⟩⟩
  case turnoverStarted => rw [State.submit_turnover hs hh, if_pos hc]
  case turnoverUnlocked => simp [State.submit_turnover hs hh, hc, hl]
  case startEarly => rw [State.submit_start hs hh, if_neg hc]
  case startStopped => rw [State.submit_start hs hh, if_pos hc, if_pos hf]
  case clockB => and_intros <;> exact congrArg Host.Outcome.next (State.submit_clockB hs hb rfl)
  case advance => simp [State.submit_advance hs hh, hc]
  case abort => simp [State.submit_abort hs hh, hc]
  case clear => rw [State.submit_clear hs hh, if_pos hc]
  case badClock => and_intros <;> exact congrArg Host.Outcome.next (State.submit_badClock hs hv rfl)

end Sys2Proof.Machine
end

section
/-! PROOFS. Writes of the pending banks (R8 to R12, R15). -/

namespace Sys2Proof.Machine

/-! ## What a write stores -/

theorem State.setTables_replied (s : State) (tag : Byte) (code : ResultCode) (h : Half) (f : MatchTables → MatchTables) :
    (s.replied tag code).setTables h f = { s.replied tag code with tables := s.tables.modify h f } := by
  simp only [State.setTables, State.replied_keeps]

/-- R15: the automatic turnover that follows a write which keeps the header. -/
theorem State.autoTurnover_stored (s : State) (tag : Byte) (code : ResultCode) (h : Half) {f : MatchTables → MatchTables}
    (hf : ∀ m, (f m).pending.header = m.pending.header) :
    let stored : State := { s.replied tag code with tables := s.tables.modify h f }
    ((s.replied tag code).setTables h f).autoTurnover h =
      if stored.lock h = true ∧ (s.tables.get h).pending.header.autoTurnover = true
          ∧ ((s.clocks.get h).state = .idle ∨ (s.clocks.get h).state = .ended)
      then stored.turnover h else stored := by
  intro stored
  have ht : (s.replied tag code).setTables h f = stored := s.setTables_replied tag code h f
  have hc : stored.clocks = s.clocks := by simp [← ht]
  have hp : (stored.tables.get h).pending.header = (s.tables.get h).pending.header := by simp [← ht, hf]
  rw [ht, State.autoTurnover, hc, hp]
  simp only [Bool.and_eq_true, decide_eq_true_eq, and_assoc]

/-! ## WRITE_MATCH_HEADER (R8, R9) -/

theorem and_not_ofFnLE {w : Nat} {m : BitVec w} {p : Fin w → Bool} (hp : ∀ i, m.getLsb i = true → p i = true) :
    m &&& ~~~(BitVec.ofFnLE p) = 0 := by
  apply BitVec.eq_of_getLsbD_eq
  intro i hi
  have := hp ⟨i, hi⟩
  simp_all [BitVec.getLsb_eq_getElem]

/-- R14, R15: a header write leaves the schedule without its valid flag, so the lock is open and no turnover follows. -/
theorem State.storeHeader_autoTurnover (s : State) (h : Half) (x : Header) :
    (s.storeHeader h x).autoTurnover h = s.storeHeader h x := by
  have hl : (s.storeHeader h x).lock h = false := by simp [State.lock, State.lockCore, State.storeHeader, Valid.clear]
  simp [State.autoTurnover, hl]

/-- Settles O17: a header whose masks lie in the half passes every check of R9. -/
theorem headerWriteRestartsTheBank : Obligations.HeaderWriteRestartsTheBank := by
  intro s tag h number slots stations auto hs hh hslots hstations
  have hm : slots &&& ~~~(s.counted.slotMask h) = 0 := and_not_ofFnLE fun i hi => by simpa using hslots i hi
  have hn : stations.extractLsb' 0 12 &&& ~~~(s.counted.stationMask h) = 0 :=
    and_not_ofFnLE fun i hi => by simpa using hstations i hi
  rw [← State.setTables_replied]
  refine congrArg Host.Outcome.next ((State.submit_write hs tag _).trans ?_)
  rw [TableWrite.verdict, writeHeaderVerdict, State.carryOut_clock hh]
  simp only [headerItem, decodeYN_code, Option.map_some, Verdict.need_some, hm, hn, beq_self_eq_true, Bool.and_self,
    Verdict.require_true, State.carryOut_take, State.counted_answer, State.storeHeader_autoTurnover]
  rfl

/-! ## WRITE_STATION, WRITE_PROFILE, WRITE_SCHEDULE -/

theorem codeOf_not (b : Bool) : codeOf (!b) = if b = true then .ok else .clamped := by cases b <;> rfl

/-- R12: CLAMPED is answered exactly when some number was out of its range. -/
theorem codeOf_decide {P Q : Prop} [Decidable P] [Decidable Q] (h : P ↔ ¬ Q) :
    codeOf (decide P) = if Q then .ok else .clamped := by
  by_cases hq : Q <;> simp [codeOf, h, hq]

/-- Settles O19: both records pass the checks of R9 and are stored as R12 brings them into range. -/
theorem stationAndProfileWritesAreStored : Obligations.StationAndProfileWritesAreStored := by
  refine ⟨fun s tag h n team hold side hs hh hn => ?_, fun s tag h p enable drive elements buttons scale hs hh => ?_⟩
  · intro entry inRange stored
    have hteam : clampNat 1 65535 team.toNat = max 1 team.toNat := by
      have := team.isLt
      simp only [clampNat]; omega
    have hcode : codeOf (decide (max 1 team.toNat ≠ team.toNat ∨ clampNat 100 2000 hold.toNat ≠ hold.toNat))
        = if inRange then .ok else .clamped :=
      codeOf_decide (by simp only [clampNat, inRange, Bool.and_eq_true, decide_eq_true_eq]; omega)
    refine congrArg Host.Outcome.next ((State.submit_write hs tag _).trans ?_)
    rw [TableWrite.verdict, writeStationVerdict, State.carryOut_clock hh]
    simp only [decodeIndex_fin12, Verdict.need_some, State.counted_derived, hn, decide_true, Verdict.require_true,
      stationItem, decodeAlliance_code, Option.map_some, hteam, State.carryOut_take, State.counted_answer, hcode]
    exact State.autoTurnover_stored s tag _ h fun _ => rfl
  · intro entry stored
    have hscale : clampNat 0 100 scale.toNat = min scale.toNat 100 := by simp only [clampNat]; omega
    have hcode : codeOf (decide (min scale.toNat 100 ≠ scale.toNat)) = if scale.toNat ≤ 100 then .ok else .clamped :=
      codeOf_decide (by omega)
    refine congrArg Host.Outcome.next ((State.submit_write hs tag _).trans ?_)
    rw [TableWrite.verdict, writeProfileVerdict, State.carryOut_clock hh]
    simp only [decodeIndex_fin4, profileItem, decodeYN_code, Verdict.need_some, hscale, State.carryOut_take,
      State.counted_answer, hcode]
    exact State.autoTurnover_stored s tag _ h fun _ => rfl

/-- R9, R12: the entries of a SCHEDULE record in their code tables are stored with their durations in range. -/
theorem scheduleItem_code (kinds : Fin 8 → PhaseKind) (durations : Fin 8 → BitVec 16) (profiles : Fin 8 → Fin 4) :
    scheduleItem (.build fun j => ⟨codePhaseKind (kinds j), durations j, num8 (profiles j).val⟩) =
      some (.build fun j => ⟨kinds j, min (durations j).toNat 9999, profiles j⟩,
        decide (¬ ∀ j, (durations j).toNat ≤ 9999)) := by
  have hclamp (n : Nat) : clampNat 0 9999 n = min n 9999 := by simp only [clampNat]; omega
  have hitem (j : Fin 8) : phaseItem ⟨codePhaseKind (kinds j), durations j, num8 (profiles j).val⟩
      = some ⟨kinds j, min (durations j).toNat 9999, profiles j⟩ := by
    simp only [phaseItem, decodePhaseKind_code, decodeIndex_fin4, hclamp]
  have hflag : ((List.finRange 8).any fun j => decide (min (durations j).toNat 9999 ≠ (durations j).toNat))
      = decide (¬ ∀ j, (durations j).toNat ≤ 9999) := by
    rw [Bool.eq_iff_iff]
    simp
  simp only [scheduleItem, Tab.get_build, hitem, Option.isSome_some, List.all_eq_true, implies_true, if_true,
    Option.getD_some, hclamp, hflag]

/-- Settles O20: the entries read back from their codes; only the kind of the first one can refuse the schedule. -/
theorem scheduleWriteIsStored : Obligations.ScheduleWriteIsStored := by
  intro s tag h kinds durations profiles hs hh record items stored
  refine congrArg Host.Outcome.next ((State.submit_write hs tag _).trans ?_)
  rw [TableWrite.verdict, writeScheduleVerdict, State.carryOut_clock hh]
  simp only [beq_self_eq_true, Verdict.require_true, record, scheduleItem_code, Verdict.need_some, Tab.get_build]
  by_cases hk : kinds 0 = .none
  · simp [hk]
  · simp only [ne_eq, hk, not_false_eq_true, decide_true, Verdict.require_true, if_false, State.carryOut_take,
      State.counted_answer, codeOf_decide Iff.rfl]
    exact State.autoTurnover_stored s tag _ h fun _ => rfl

/-! ## WRITE_SLOT (R8, R11) -/

/-- R9 check 6: no other valid entry with a kit names the station and selector of the entry. -/
theorem State.stationTaken_eq_false {s : State} {h : Half} {i : Fin 24} {e : SlotEntry}
    (hfree : e.kit ≠ 0 → ∀ j, j ≠ i → (s.tables.get h).valid.slots.get j = true →
      ((s.tables.get h).pending.slots.get j).kit ≠ 0 →
      ¬ (((s.tables.get h).pending.slots.get j).station = e.station
        ∧ ((s.tables.get h).pending.slots.get j).selector = e.selector)) :
    s.stationTaken h i e = false := by
  simpa [State.stationTaken] using hfree

theorem State.kitPending_eq_true {s : State} {h : Half} {i : Option (Fin 24)} {kit : BitVec 32} :
    s.kitPending h i kit = true ↔ ∃ j, some j ≠ i ∧ (s.tables.get h).valid.slots.get j = true
      ∧ ((s.tables.get h).pending.slots.get j).kit = kit := by
  simp [State.kitPending, and_assoc]

/-- R9 check 7: no other valid entry of either bank holds the kit ID. -/
theorem State.kitTaken_eq_false {s : State} {h : Half} {i : Fin 24} {e : SlotEntry}
    (hown : e.kit ≠ 0 → ∀ j, j ≠ i → (s.tables.get h).valid.slots.get j = true →
      ((s.tables.get h).pending.slots.get j).kit ≠ e.kit)
    (hother : e.kit ≠ 0 → ∀ j, (s.tables.get h.other).valid.slots.get j = true →
      ((s.tables.get h.other).pending.slots.get j).kit ≠ e.kit) :
    s.kitTaken h i e = false := by
  by_cases hk : e.kit = 0
  · simp [State.kitTaken, hk]
  · have h1 : ¬ s.kitPending h (some i) e.kit = true := by
      rw [State.kitPending_eq_true]
      exact fun ⟨j, hj, hv, he⟩ => hown hk j (by simpa using hj) hv he
    have h2 : ¬ s.kitPending h.other none e.kit = true := by
      rw [State.kitPending_eq_true]
      exact fun ⟨j, _, hv, he⟩ => hother hk j hv he
    simp [State.kitTaken, h1, h2]

@[simp] theorem State.counted_stationTaken (s : State) : s.counted.stationTaken = s.stationTaken := by
  funext h i e; simp only [State.stationTaken, State.counted_keeps]

@[simp] theorem State.counted_kitTaken (s : State) : s.counted.kitTaken = s.kitTaken := by
  funext h i e; simp only [State.kitTaken, State.kitPending, State.counted_keeps]

/-- R12: the entry that a SLOT record with a station and a selector stores. -/
def storedSlot (r : SlotRecord) (n : Fin 12) (k : Fin 2) : SlotEntry :=
  { kit := r.kit, station := some n, selector := k, power := min r.power.toNat 100, deadband := min r.deadband.toNat 100,
    slew := max 1 (min r.slew.toNat 2000), timeout := max 100 (min r.timeout.toNat 2000) }

/-- R12: every number of a SLOT record lies in its range. -/
def slotInRange (r : SlotRecord) : Bool :=
  r.power.toNat ≤ 100 && r.deadband.toNat ≤ 100 && 1 ≤ r.slew.toNat && r.slew.toNat ≤ 2000
    && 100 ≤ r.timeout.toNat && r.timeout.toNat ≤ 2000

theorem slotItem_code {r : SlotRecord} {n : Fin 12} {k : Fin 2} (hn : r.station = num8 n.val) (hk : r.selector = num8 k.val) :
    slotItem r = some (storedSlot r n k, !slotInRange r) := by
  have h100 (x : Nat) : clampNat 0 100 x = min x 100 := by simp only [clampNat]; omega
  have hflag : decide ((storedSlot r n k).power ≠ r.power.toNat ∨ (storedSlot r n k).deadband ≠ r.deadband.toNat
      ∨ (storedSlot r n k).slew ≠ r.slew.toNat ∨ (storedSlot r n k).timeout ≠ r.timeout.toNat) = !slotInRange r := by
    rw [Bool.eq_iff_iff, decide_eq_true_eq, Bool.not_eq_true', ← Bool.not_eq_true]
    simp only [storedSlot, slotInRange, Bool.and_eq_true, decide_eq_true_eq]
    omega
  rw [← hflag]
  simp only [slotItem, hn, hk, decodeIndex_fin12, decodeIndex_fin2, h100]
  rfl

/-- R8 to R12, R15: what a SLOT write answers that names a slot and a station of the half and a robot selector. -/
theorem State.submit_writeSlot {s : State} {h : Half} {i : Fin 24} {n : Fin 12} {k : Fin 2} {r : SlotRecord} (hs : s.Ready)
    (hh : h = .a ∨ s.split = true) (hi : s.slotHalf i = h) (hn : s.stationHalf n = h) (hrn : r.station = num8 n.val)
    (hrk : r.selector = num8 k.val) (tag : Byte) :
    s.submit tag (.write (.slot (codeHalf h) (num8 i.val) r)) =
      if s.stationTaken h i (storedSlot r n k) = true then s.replied tag .badValue
      else if s.kitTaken h i (storedSlot r n k) = true then s.replied tag .duplicateKit
      else ((s.replied tag (if slotInRange r = true then .ok else .clamped)).storeSlot h i (storedSlot r n k)).autoTurnover h := by
  have hstation : (storedSlot r n k).station = some n := rfl
  rw [State.submit_write hs, TableWrite.verdict, writeSlotVerdict, State.carryOut_clock hh]
  simp only [decodeIndex_fin24, Verdict.need_some, State.counted_derived, hi, decide_true, Verdict.require_true,
    slotItem_code hrn hrk, hstation, Option.all_some, hn, State.counted_stationTaken, State.counted_kitTaken, codeOf_not]
  cases s.stationTaken h i (storedSlot r n k) <;> cases s.kitTaken h i (storedSlot r n k) <;> rfl

/-- Settles O18: of the checks of R9, those of R11 are the last two. -/
theorem slotWriteIsStoredOrDuplicate : Obligations.SlotWriteIsStoredOrDuplicate := by
  refine ⟨fun s tag h i n k kit power dead slew timeout hs hh hi hn hstation hown hother => ?_,
    fun s tag h i j n k r hs hh hi hn hrn hrk hkit hj hv hsame hstation => ?_⟩
  · let r : SlotRecord := ⟨kit, num8 n.val, num8 k.val, power, dead, slew, timeout⟩
    have hfree : s.stationTaken h i (storedSlot r n k) = false := State.stationTaken_eq_false hstation
    have hnew : s.kitTaken h i (storedSlot r n k) = false := State.kitTaken_eq_false hown hother
    refine congrArg Host.Outcome.next ((State.submit_writeSlot (r := r) hs hh hi hn rfl rfl tag).trans ?_)
    rw [hfree, hnew, if_neg Bool.false_ne_true, if_neg Bool.false_ne_true]
    exact State.autoTurnover_stored s tag _ h fun _ => rfl
  · have hfree : s.stationTaken h i (storedSlot r n k) = false := State.stationTaken_eq_false fun _ => hstation
    have hp : s.kitPending h (some i) r.kit = true := State.kitPending_eq_true.mpr ⟨j, by simpa using hj, hv, hsame⟩
    have htaken : s.kitTaken h i (storedSlot r n k) = true := by simpa [State.kitTaken, storedSlot, hp] using hkit
    refine congrArg Host.Outcome.next ((State.submit_writeSlot hs hh hi hn hrn hrk tag).trans ?_)
    rw [hfree, htaken, if_neg Bool.false_ne_true, if_pos rfl]

end Sys2Proof.Machine
end

section
/-! PROOFS. Turnover (R16 to R22, R114). -/

namespace Sys2Proof.Machine

/-! ## The new active bank (R17, R18) -/

/-- R17 step 2. -/
theorem State.newStations_get (s : State) (h : Half) (n : Fin 12) :
    (s.newStations h).get n =
      if s.stationHalf n ≠ h then (s.active h).stations.get n
      else if (s.tables.get h).pending.header.stations.getLsb n = true ∧ (s.tables.get h).valid.stations.get n = true
        then (s.tables.get h).pending.stations.get n else .empty := by
  simp only [State.newStations, Tab.get_update, State.active, ite_not, Bool.and_eq_true]

/-- R17 step 3: a slot of the half whose pending entry is copied, before the test for conflicts. -/
def State.Copied (s : State) (h : Half) (i : Fin 24) : Prop :=
  (s.tables.get h).pending.header.slots.getLsb i = true ∧ (s.tables.get h).valid.slots.get i = true
    ∧ ((s.tables.get h).pending.slots.get i).kit ≠ 0
    ∧ ∃ n, ((s.tables.get h).pending.slots.get i).station = some n ∧ ((s.newStations h).get n).team ≠ 0

theorem SlotEntry.stationPresent_iff (e : SlotEntry) (stations : Tab 12 StationEntry) :
    e.stationPresent stations = true ↔ ∃ n, e.station = some n ∧ (stations.get n).team ≠ 0 := by
  cases hn : e.station <;> simp [SlotEntry.stationPresent, StationEntry.present, hn]

theorem State.copied_iff (s : State) (h : Half) (i : Fin 24) :
    ((s.tables.get h).pending.header.slots.getLsb i && (s.tables.get h).valid.slots.get i
      && ((s.tables.get h).pending.slots.get i).kit != 0
      && ((s.tables.get h).pending.slots.get i).stationPresent (s.newStations h)) = true ↔ s.Copied h i := by
  simp only [State.Copied, Bool.and_eq_true, bne_iff_ne, SlotEntry.stationPresent_iff, and_assoc]

theorem State.copiedSlots_outside {s : State} {h : Half} {i : Fin 24} (hi : s.slotHalf i ≠ h) :
    (s.copiedSlots h).get i = (s.active h).slots.get i := by
  simp only [State.copiedSlots, Tab.get_update, State.active, if_neg hi]

theorem State.copiedSlots_copied {s : State} {h : Half} {i : Fin 24} (hi : s.slotHalf i = h) (hc : s.Copied h i) :
    (s.copiedSlots h).get i = (s.tables.get h).pending.slots.get i := by
  simp only [State.copiedSlots, Tab.get_update, if_pos hi]
  exact if_pos ((s.copied_iff h i).mpr hc)

theorem State.copiedSlots_not_copied {s : State} {h : Half} {i : Fin 24} (hi : s.slotHalf i = h) (hc : ¬ s.Copied h i) :
    (s.copiedSlots h).get i = .empty := by
  simp only [State.copiedSlots, Tab.get_update, if_pos hi]
  exact if_neg (mt (s.copied_iff h i).mp hc)

/-- R17 step 4: the kit ID of a pending slot entry stands in the other clock's active bank. -/
def State.KitElsewhere (s : State) (h : Half) (i : Fin 24) : Prop :=
  ∃ j, ((s.active h.other).slots.get j).kit = ((s.tables.get h).pending.slots.get i).kit

/-- R17 step 4. -/
theorem State.conflicts_iff (s : State) (h : Half) (i : Fin 24) :
    (s.conflicts h).getLsb i = true ↔ s.slotHalf i = h ∧ s.Copied h i ∧ s.KitElsewhere h i := by
  simp only [State.conflicts, BitVec.getLsb_ofFnLE, Bool.and_eq_true, decide_eq_true_eq, bne_iff_ne, List.any_eq_true,
    List.mem_finRange, true_and, beq_iff_eq, and_assoc]
  refine and_congr_right fun hi => ?_
  by_cases hc : s.Copied h i
  · have ⟨_, _, hk, _⟩ := hc
    simp only [State.copiedSlots_copied hi hc, hc, hk, ne_eq, not_false_eq_true, true_and, State.KitElsewhere]
  · simp [State.copiedSlots_not_copied hi hc, hc, SlotEntry.empty]

@[simp] theorem State.newActive_header (s : State) (h : Half) : (s.newActive h).header = (s.tables.get h).pending.header := by
  simp only [State.newActive]

@[simp] theorem State.newActive_schedule (s : State) (h : Half) :
    (s.newActive h).schedule = (s.tables.get h).pending.schedule := by
  simp only [State.newActive]

@[simp] theorem State.newActive_profiles (s : State) (h : Half) :
    (s.newActive h).profiles = (s.tables.get h).pending.profiles := by
  simp only [State.newActive]

@[simp] theorem State.newActive_stations (s : State) (h : Half) : (s.newActive h).stations = s.newStations h := by
  simp only [State.newActive]

theorem State.newActive_slots (s : State) (h : Half) (i : Fin 24) :
    (s.newActive h).slots.get i = if (s.conflicts h).getLsb i = true then .empty else (s.copiedSlots h).get i := by
  simp only [State.newActive, Tab.get_update]

theorem State.newActive_slots_outside {s : State} {h : Half} {i : Fin 24} (hi : s.slotHalf i ≠ h) :
    (s.newActive h).slots.get i = (s.active h).slots.get i := by
  rw [State.newActive_slots, if_neg fun hb => hi ((s.conflicts_iff h i).mp hb).1, State.copiedSlots_outside hi]

theorem State.newActive_slots_copied {s : State} {h : Half} {i : Fin 24} (hi : s.slotHalf i = h) (hc : s.Copied h i)
    (hn : ¬ s.KitElsewhere h i) : (s.newActive h).slots.get i = (s.tables.get h).pending.slots.get i := by
  rw [State.newActive_slots, if_neg fun hb => hn ((s.conflicts_iff h i).mp hb).2.2, State.copiedSlots_copied hi hc]

theorem State.newActive_slots_empty {s : State} {h : Half} {i : Fin 24} (hi : s.slotHalf i = h)
    (hc : ¬ s.Copied h i ∨ s.KitElsewhere h i) : (s.newActive h).slots.get i = .empty := by
  rw [State.newActive_slots]
  split
  case isTrue => rfl
  case isFalse hb =>
    exact State.copiedSlots_not_copied hi fun hk => hc.elim (absurd hk) fun he =>
      hb ((s.conflicts_iff h i).mpr ⟨hi, hk, he⟩)

theorem vacatedSlots_iff (b : Bank) (i : Fin 24) :
    (vacatedSlots b).getLsb i = true ↔ b.header.slots.getLsb i = true ∧ (b.slots.get i).kit = 0 := by
  simp only [vacatedSlots, BitVec.getLsb_ofFnLE, Bool.and_eq_true, beq_iff_eq]

/-- R17: the new active bank is a matter of the tables and of the halves. -/
theorem State.newBank_congr {s t : State} (e : t.split = s.split) (m : t.tables = s.tables) :
    t.newActive = s.newActive ∧ t.conflicts = s.conflicts := by
  obtain ⟨hslot, hstation, -, -, hactive, -⟩ := State.tables_congr e m
  have hnew : t.newStations = s.newStations := by funext h; simp only [State.newStations, m, hstation]
  have hcopied : t.copiedSlots = s.copiedSlots := by funext h; simp only [State.copiedSlots, m, hslot, hnew]
  have hconflicts : t.conflicts = s.conflicts := by funext h; simp only [State.conflicts, hslot, hcopied, hactive]
  exact ⟨by funext h; simp only [State.newActive, m, hnew, hcopied, hconflicts], hconflicts⟩

/-! ## The event (R18 to R22) -/

/-- R17, R19 to R22: the state of a turnover before its reports. -/
def State.installed (s : State) (h : Half) : State :=
  ((((((s.setTables h fun m => { m with active := s.newActive h, valid := .clear }).dropLinks h).autoOverrides h).zeroMatch
    h).releaseStations h).flushSilent h |>.clearScoring h).arm h

/-- R18, R22: the TURNOVER report goes before the CLOCK_STATE report, and no report touches anything but the trunk port. -/
theorem State.turnover_eq (s : State) (h : Half) :
    s.turnover h =
      let told := (s.installed h).report (.turnover h (s.newActive h).header.number (vacatedSlots (s.newActive h)) (s.conflicts h))
      if (s.clocks.get h).state = .armed then told else told.reportClock h := by
  by_cases hc : (s.clocks.get h).state = .armed <;> simp [State.turnover, State.installed, hc]

theorem State.turnover_installed (s : State) (h : Half) :
    (s.turnover h).tables = (s.installed h).tables ∧ (s.turnover h).clocks = (s.installed h).clocks ∧
    (s.turnover h).links = (s.installed h).links ∧ (s.turnover h).radio = (s.installed h).radio ∧
    (s.turnover h).slots = (s.installed h).slots ∧ (s.turnover h).stations = (s.installed h).stations ∧
    (s.turnover h).claims = (s.installed h).claims ∧ (s.turnover h).scores = (s.installed h).scores ∧
    (s.turnover h).sensors = (s.installed h).sensors := by
  rw [State.turnover_eq]
  by_cases hc : (s.clocks.get h).state = .armed <;> simp [hc]

theorem State.installed_tables (s : State) (h : Half) :
    (s.installed h).tables = s.tables.modify h fun m => { m with active := s.newActive h, valid := .clear } := by
  simp [State.installed]

theorem State.installed_active (s : State) (h : Half) : (s.installed h).active h = s.newActive h := by
  simp [State.active, State.installed_tables]

theorem State.installed_clocks (s : State) (h : Half) :
    (s.installed h).clocks = s.clocks.set h { s.clocks.get h with
      state := .armed, phase := 0, remaining := ((s.newActive h).schedule.get 0).duration, elapsed := 0, tenthPos := 0,
      commandHold := false, stopHold := false, lineHold := s.lineHold h } := by
  simp [State.installed, State.arm, State.active, PerHalf.modify]

theorem State.installed_links (s : State) (h : Half) (i : Fin 24) :
    (s.installed h).links.get i = if s.slotHalf i = h then
      { s.links.get i with
        state := if ((s.newActive h).slots.get i).kit = 0 then .vacant else .searching
        liveness := none }
      else s.links.get i := by
  simp [State.installed, State.dropLinks, State.active]

theorem State.installed_radio (s : State) (h : Half) :
    (s.installed h).radio = { s.radio with answers := s.radio.answers.filter fun a => s.slotHalf a.slot ≠ h } := by
  simp [State.installed, State.dropLinks]

theorem State.installed_slots (s : State) (h : Half) (i : Fin 24) :
    (s.installed h).slots.get i = if s.slotHalf i = h then
      { s.slots.get i with override := .auto, targets := .fill 0, lastSent := .fill 0, buttons := 0 } else s.slots.get i := by
  simp only [State.installed, State.zeroMatch, State.autoOverrides]
  by_cases hi : s.slotHalf i = h <;> simp [hi, SlotAdmission.zeroTargets, SlotAdmission.zeroSent]

theorem State.installed_stations (s : State) (h : Half) (n : Fin 12) :
    (s.installed h).stations.get n = if s.stationHalf n = h then
      { s.stations.get n with
        silence := none, stopLatch := (s.stations.get n).stopLatch && (s.console.get n).breakPresent }
      else s.stations.get n := by
  simp only [State.installed, State.zeroMatch, State.releaseStations]
  by_cases hn : s.stationHalf n = h <;> simp [hn]

theorem State.installed_claims (s : State) (h : Half) (e : Fin 32) :
    (s.installed h).claims.get e = if s.elementHalf e = h then Claim.empty else s.claims.get e := by
  simp [State.installed]

theorem State.installed_scores (s : State) (h : Half) : (s.installed h).scores = s.scores.set h Scores.zero := by
  simp [State.installed, State.clearScoring, PerHalf.modify]

theorem State.installed_sensors (s : State) (h : Half) (e : Fin 32) (k : Fin 2) :
    ((s.installed h).sensors.get e).get k = if s.elementHalf e = h then
      { (s.sensors.get e).get k with count := 0, captured := false, captureTime := 0 } else (s.sensors.get e).get k := by
  simp [State.installed, State.clearScoring]

theorem State.installed_trunk (s : State) (h : Half) : (s.installed h).trunk = s.trunk := by
  simp [State.installed]

theorem State.report_trunk_congr {s t : State} (e : t.trunk = s.trunk) (r : Report) :
    (t.report r).trunk = (s.report r).trunk := by
  simp only [State.report, State.setTrunk, e]

/-- R18, R22: what a turnover hands to the report queue. -/
theorem State.turnover_trunk (s : State) (h : Half) :
    (s.turnover h).trunk =
      (let told := s.report (.turnover h (s.newActive h).header.number (vacatedSlots (s.newActive h)) (s.conflicts h))
      if (s.clocks.get h).state = .armed then told
      else told.report (.clockState h .armed false (s.lineHold h) false 0)).trunk := by
  rw [State.turnover_eq]
  have htold := State.report_trunk_congr (s.installed_trunk h)
    (.turnover h (s.newActive h).header.number (vacatedSlots (s.newActive h)) (s.conflicts h))
  by_cases hc : (s.clocks.get h).state = .armed
  · simp only [if_pos hc, htold]
  · simp only [if_neg hc, State.reportClock, State.report_clocks, State.installed_clocks, PerHalf.get_set_self]
    exact State.report_trunk_congr htold _

/-- A state that keeps the blocks that no turnover touches differs from the old one in the others alone. -/
theorem State.eq_of_kept {s t : State}
    (hk : t.split = s.split ∧ t.lines = s.lines ∧ t.served = s.served ∧ t.console = s.console ∧ t.entries = s.entries ∧
      t.outputs = s.outputs ∧ t.bus = s.bus ∧ t.elements = s.elements ∧ t.pending = s.pending) :
    t = { s with
      tables := t.tables, clocks := t.clocks, links := t.links, slots := t.slots, stations := t.stations, claims := t.claims
      scores := t.scores, sensors := t.sensors, radio := t.radio, trunk := t.trunk } := by
  obtain ⟨hsplit, hlines, hserved, hconsole, hentries, houtputs, hbus, helements, hpending⟩ := hk
  rw [← hsplit, ← hlines, ← hserved, ← hconsole, ← hentries, ← houtputs, ← hbus, ← helements, ← hpending]

/-- Settles O21: a TURNOVER that passes R16 is a turnover of the replied state, field by field. -/
theorem turnoverInstallsThePendingMatch : Obligations.TurnoverInstallsThePendingMatch := by
  intro s tag h hs hh hc hl p valid
  obtain ⟨hnew, hconf⟩ := State.newBank_congr (s := s) (t := s.replied tag .ok) (by simp) (by simp)
  obtain ⟨htables, hclocks, hlinks, hradio, hslots, hstations, hclaims, hscores, hsensors⟩ :=
    (s.replied tag .ok).turnover_installed h
  have hactive : ((s.replied tag .ok).turnover h).active h = s.newActive h := by
    rw [State.active, htables, ← State.active, State.installed_active, hnew]
  have hexec : exec (.turnover tag (codeHalf h)) s = .next ((s.replied tag .ok).turnover h) := by
    refine congrArg Host.Outcome.next ?_
    simp [State.submit_turnover hs hh, hc, hl]
  refine ⟨_, vacatedSlots (s.newActive h), s.conflicts h, hexec, ?clocks, ?tables, ?header, ?schedule, ?profiles, ?newStations,
    ?otherSlots, ?ownSlots, ?otherConflicts, ?vacated, ?links, ?radio, ?slots, ?stations, ?claims, ?scores, ?sensors, ?trunk,
    State.eq_of_kept (by simp)⟩
  case clocks => rw [hclocks, State.installed_clocks, hnew]; simp [p]
  case tables =>
    rw [hactive, htables, State.installed_tables, hnew]
    simp [PerHalf.modify, p]
  case header => rw [hactive, State.newActive_header]
  case schedule => rw [hactive, State.newActive_schedule]
  case profiles => rw [hactive, State.newActive_profiles]
  case newStations => rw [hactive, State.newActive_stations]; exact s.newStations_get h
  case otherSlots => intro i hi; rw [hactive, State.newActive_slots_outside hi]
  case ownSlots =>
    intro i hi copied conflicts
    have hcopied : copied ↔ s.Copied h i := by simp only [copied, hactive, State.newActive_stations]; rfl
    rw [hactive, hcopied]
    exact ⟨State.newActive_slots_copied hi, State.newActive_slots_empty hi,
      (s.conflicts_iff h i).trans (and_iff_right hi)⟩
  case otherConflicts => exact fun i hi => Bool.eq_false_iff.mpr fun hb => hi ((s.conflicts_iff h i).mp hb).1
  case vacated => intro i; rw [hactive, vacatedSlots_iff, State.newActive_header]
  case links => intro i; rw [hlinks, State.installed_links, hactive, hnew]; simp
  case radio => rw [hradio, State.installed_radio]; simp
  case slots => intro i; rw [hslots, State.installed_slots]; simp
  case stations => intro n; rw [hstations, State.installed_stations]; simp
  case claims => intro e; rw [hclaims, State.installed_claims]; simp
  case scores => rw [hscores, State.installed_scores]; simp
  case sensors => intro e k; rw [hsensors, State.installed_sensors]; simp
  case trunk => rw [State.turnover_trunk, hnew, hconf]; simp [p]

end Sys2Proof.Machine
end

section
/-! PROOFS. What the operations of the match clocks and the arena line unit leave in the clocks (chapter 2). -/

namespace Sys2Proof

theorem PerHalf.set_set {α : Type} (p : PerHalf α) (h : Half) (x y : α) : (p.set h x).set h y = p.set h y := by
  cases h <;> rfl

theorem PerHalf.get_set_ne {α : Type} (p : PerHalf α) {h k : Half} (x : α) (hk : h ≠ k) : (p.set h x).get k = p.get k := by
  rw [PerHalf.get_set, if_neg hk]

@[simp] theorem PerHalf.set_get {α : Type} (p : PerHalf α) (h : Half) : p.set h (p.get h) = p := by
  cases h <;> rfl

theorem PerHalf.modify_eq {α : Type} (p : PerHalf α) (h : Half) (f : α → α) : p.modify h f = p.set h (f (p.get h)) := rfl

theorem Tab.set_set {n : Nat} {α : Type} (t : Tab n α) (i : Fin n) (x y : α) : (t.set i x).set i y = t.set i y :=
  Tab.ext fun j => by simp only [Tab.get_set]; split <;> rfl

@[simp] theorem Tab.set_get {n : Nat} {α : Type} (t : Tab n α) (i : Fin n) : t.set i (t.get i) = t :=
  Tab.ext fun j => by rw [Tab.get_set]; split <;> simp_all

end Sys2Proof

namespace Sys2Proof.Machine

/-! ## Phases entered and matches ended (R22, R28, R34, R36) -/

/-- R36: a phase is entered with its full duration. -/
theorem State.enterPhase_clocks (s : State) (h : Half) (j : Fin 8) :
    (s.enterPhase h j).clocks = s.clocks.set h
      { s.clocks.get h with phase := j, remaining := ((s.active h).schedule.get j).duration } := by
  simp [State.enterPhase, PerHalf.modify_eq]

/-- R36: the phase in force ends with the next one entered, or with the match. -/
theorem State.endPhase_eq (s : State) (h : Half) :
    (∃ j, NextPhase (s.active h).schedule ((s.clocks.get h).phase.val + 1) j ∧ s.endPhase h = s.enterPhase h j) ∨
      s.endPhase h = s.endMatch h := by
  rw [State.endPhase]
  cases e : firstPhase (s.active h).schedule 8 ((s.clocks.get h).phase.val + 1) with
  | some j => exact .inl ⟨j, firstPhase_sound _ _ e, rfl⟩
  | none => exact .inr rfl

theorem State.endPhase_of_next {s : State} {h : Half} {j : Fin 8}
    (hj : NextPhase (s.active h).schedule ((s.clocks.get h).phase.val + 1) j) : s.endPhase h = s.enterPhase h j := by
  rw [State.endPhase, firstPhase_eq_some 8 _ (by omega) hj]

theorem State.endPhase_of_last {s : State} {h : Half} (hn : NoPhase (s.active h).schedule ((s.clocks.get h).phase.val + 1)) :
    s.endPhase h = s.endMatch h := by
  rw [State.endPhase, firstPhase_eq_none hn]

/-- R36: the clock of a match that has ended. -/
theorem State.matchEnded_clocks (s : State) (h : Half) :
    (s.matchEnded h).clocks = s.clocks.set h { s.clocks.get h with
      state := .ended, remaining := 0, commandHold := false, stopHold := false, lineHold := s.lineHold h } := by
  simp [State.matchEnded, PerHalf.modify_eq]

/-- R22: the clock of a match turned over. -/
theorem State.turnover_clocks (s : State) (h : Half) :
    (s.turnover h).clocks = s.clocks.set h { s.clocks.get h with
      state := .armed, phase := 0, remaining := ((s.newActive h).schedule.get 0).duration, elapsed := 0, tenthPos := 0,
      commandHold := false, stopHold := false, lineHold := s.lineHold h } := by
  obtain ⟨-, hclocks, -⟩ := s.turnover_installed h
  rw [hclocks, State.installed_clocks]

/-- R22, R33: the clock of a match armed. -/
theorem State.arm_clocks (s : State) (h : Half) :
    (s.arm h).clocks = s.clocks.set h { s.clocks.get h with
      state := .armed, phase := 0, remaining := ((s.active h).schedule.get 0).duration, elapsed := 0, tenthPos := 0,
      commandHold := false, stopHold := false, lineHold := s.lineHold h } := rfl

/-- R34: the clock of a match cleared. -/
theorem State.clearMatch_clocks (s : State) (h : Half) :
    (s.clearMatch h).clocks = s.clocks.set h { s.clocks.get h with
      state := .idle, phase := 0, remaining := 0, elapsed := 0, tenthPos := 0, commandHold := false, stopHold := false,
      lineHold := s.lineHold h } := by
  by_cases hc : (s.clocks.get h).state = .idle <;> simp [State.clearMatch, hc, PerHalf.modify_eq]

/-! ## A match started (R28) -/

/-- R28, R52: the state in which a taken START looks for its first phase. -/
def State.zeroed (s : State) (h : Half) : State := (s.setClock h fun c => { c with elapsed := 0, tenthPos := 0 }).endTests h

theorem State.zeroed_clocks (s : State) (h : Half) :
    (s.zeroed h).clocks = s.clocks.set h { s.clocks.get h with elapsed := 0, tenthPos := 0 } := by
  simp [State.zeroed, PerHalf.modify_eq]

/-- R28: a START with a first phase enters it, PAUSED under a line hold and RUNNING otherwise. -/
theorem State.startMatch_of_first {s : State} {h : Half} {j : Fin 8} (hj : NextPhase (s.active h).schedule 0 j) :
    s.startMatch h = (((s.zeroed h).enterPhase h j).setClock h fun c =>
      { c with state := if c.lineHold then .paused else .running }).reportClock h := by
  rw [State.startMatch, firstPhase_eq_some 8 0 (by omega) hj]
  rfl

theorem State.startMatch_of_empty {s : State} {h : Half} (hn : NoPhase (s.active h).schedule 0) :
    s.startMatch h = (s.zeroed h).endMatch h := by
  rw [State.startMatch, firstPhase_eq_none hn]
  rfl

/-- R28: a START enters a first phase, or ends an empty match. -/
theorem State.startMatch_eq (s : State) (h : Half) :
    (∃ j, NextPhase (s.active h).schedule 0 j) ∨ s.startMatch h = (s.zeroed h).endMatch h := by
  by_cases hn : NoPhase (s.active h).schedule 0
  · exact .inr (State.startMatch_of_empty hn)
  · exact .inl (not_forall_not.mp hn)

/-- R28: the clock of a match started. -/
theorem State.startMatch_clocks {s : State} {h : Half} {j : Fin 8} (hj : NextPhase (s.active h).schedule 0 j) :
    (s.startMatch h).clocks = s.clocks.set h { s.clocks.get h with
      state := if (s.clocks.get h).lineHold then .paused else .running, phase := j,
      remaining := ((s.active h).schedule.get j).duration, elapsed := 0, tenthPos := 0 } := by
  rw [State.startMatch_of_first hj]
  simp [State.enterPhase_clocks, PerHalf.modify_eq, PerHalf.set_set, State.zeroed]

/-! ## Field stops and split mode (R38, R44) -/

/-- R44: a clock whose half is stopped. -/
def Clock.stopped (c : Clock) : Clock :=
  if c.state.started then { c with fieldStop := true, state := .paused, stopHold := true, commandHold := true }
  else { c with fieldStop := true }

theorem Clock.stopped_of_started {c : Clock} (hc : c.state.started = true) :
    c.stopped = { c with fieldStop := true, state := .paused, stopHold := true, commandHold := true } := if_pos hc

theorem Clock.stopped_of_rest {c : Clock} (hc : c.state.started = false) : c.stopped = { c with fieldStop := true } :=
  if_neg (by simp [hc])

/-- R44: a latch already set stays; one that is set now stops its clock. -/
theorem State.latchStop_clocks (s : State) (h : Half) (source : StopSource) :
    (s.latchStop h source).clocks =
      if (s.clocks.get h).fieldStop then s.clocks else s.clocks.set h (s.clocks.get h).stopped := by
  by_cases hf : (s.clocks.get h).fieldStop = true
  · rw [State.latchStop, if_pos hf, if_pos hf]
  · by_cases hc : (s.clocks.get h).state.started = true <;>
      simp [State.latchStop, hf, hc, Clock.stopped, Clock.settle, PerHalf.modify_eq, PerHalf.set_set]

/-- R45: the state after a set latch is cleared. -/
def State.stopCleared (s : State) (h : Half) : State :=
  ((s.setClock h fun c => { c with fieldStop := false }).report (.stop h .command false)).changeHolds h
    fun c => { c with stopHold := false }

/-- R45: the clock of a half released settles by the holds that are left. -/
theorem State.stopCleared_clocks (s : State) (h : Half) :
    (s.stopCleared h).clocks = s.clocks.set h ({ s.clocks.get h with fieldStop := false, stopHold := false } : Clock).settle := by
  simp [State.stopCleared, PerHalf.modify_eq, PerHalf.set_set]

/-- R38: a stop latch carried takes its value, and no hold cause changes. -/
theorem State.carryStop_clocks (s : State) (h : Half) (value : Bool) :
    (s.carryStop h value).clocks = s.clocks.set h { s.clocks.get h with fieldStop := value } := by
  by_cases hv : (s.clocks.get h).fieldStop = value
  · subst hv
    rw [State.carryStop, if_pos rfl]
    exact (PerHalf.set_get _ _).symm
  · simp [State.carryStop, hv, PerHalf.modify_eq]

/-- R38: a SPLIT_SET has taken its value and emptied the pending banks. -/
def State.splitEmptied (s : State) (value : Bool) : State := { s with
  split := value
  tables := ⟨{ s.tables.a with pending := .empty, valid := .clear }, { s.tables.b with pending := .empty, valid := .clear }⟩ }

/-- R38: a SPLIT_SET has carried the stop latches. -/
def State.splitCarried (s : State) (value : Bool) : State :=
  match s.split, value with
  | false, true =>
    (List.finRange 4).foldl (fun t n => t.latchFrom .b n) ((s.splitEmptied value).carryStop .b s.clocks.a.fieldStop)
  | true, false =>
    ((s.splitEmptied value).carryStop .a (s.clocks.a.fieldStop || s.clocks.b.fieldStop)).carryStop .b false
  | _, _ => s.splitEmptied value

theorem State.setSplit_eq (s : State) (value : Bool) : s.setSplit value = (s.splitCarried value).deriveHolds := rfl

end Sys2Proof.Machine
end


section
/-! PROOFS. What every step keeps of the two match clocks (R26, R39, R44). -/

namespace Sys2Proof.Machine

/-! ## Settled clocks (R26, R44) -/

/-- R26: a clock outside a started match with no command hold and no stop hold is settled. -/
theorem Clock.settled_of_rest {c : Clock} (hs : c.state.started = false) (hcommand : c.commandHold = false)
    (hstop : c.stopHold = false) : c.Settled := by
  simp [Clock.Settled, hs, hcommand, hstop]

/-- R26: settling starts and stops no match. -/
@[simp] theorem Clock.settle_started (c : Clock) : c.settle.state.started = c.state.started := by
  cases hs : c.state.started <;> simp only [Clock.settle, hs, if_true, if_false, Bool.false_eq_true]
  split <;> rfl

/-- R26: a settled clock outside a started match has no command hold and no stop hold. -/
theorem Clock.Settled.atRest {c : Clock} (hc : c.Settled) (hs : c.state.started = false) :
    c.commandHold = false ∧ c.stopHold = false :=
  hc.2.1 hs

/-- R44: a settled clock of a stopped half keeps its stop hold. -/
theorem Clock.Settled.stopHeld {c : Clock} (hc : c.Settled) (hs : c.state.started = true) (hf : c.fieldStop = true) :
    c.stopHold = true :=
  hc.2.2 hs hf

theorem Clock.settle_idle {c : Clock} (hc : c.state = .idle) : c.settle.state = .idle := by
  simp [Clock.settle, hc, ClockState.started]

/-- R26, R44: a clock that settles after its hold causes changed is settled, if the change left no command hold and no stop hold
outside a started match, and a stopped match its stop hold. -/
theorem Clock.settle_settled {c : Clock} (hrest : c.state.started = false → c.commandHold = false ∧ c.stopHold = false)
    (hstop : c.state.started = true → c.fieldStop = true → c.stopHold = true) : c.settle.Settled := by
  refine ⟨fun hs => ?paused, fun hs => hrest (c.settle_started ▸ hs), fun hs => hstop (c.settle_started ▸ hs)⟩
  rw [Clock.settle_started] at hs
  simp only [Clock.settle, hs, if_true]
  split <;> simp_all

/-- R42: a settled clock whose line hold changes settles again. -/
theorem Clock.Settled.lineHold {c : Clock} (hc : c.Settled) (hold : Bool) :
    ({ c with lineHold := hold } : Clock).settle.Settled :=
  Clock.settle_settled hc.atRest hc.stopHeld

/-- R44: a settled clock is settled when its half is stopped. -/
theorem Clock.Settled.stopped {c : Clock} (hc : c.Settled) : c.stopped.Settled := by
  cases hs : c.state.started with
  | false =>
    obtain ⟨hcommand, hstop⟩ := hc.atRest hs
    rw [Clock.stopped_of_rest hs]
    exact Clock.settled_of_rest hs hcommand hstop
  | true =>
    rw [Clock.stopped_of_started hs]
    simp [Clock.Settled, ClockState.started]

/-! ## Changes that keep both invariants -/

/-- A change of the state that keeps the two invariants of the match clocks: that of R26 and R44, and that of R39. -/
structure State.ClocksKept (s t : State) : Prop where
  settled : s.Settled → t.Settled
  rests : s.ClockBRests → t.ClockBRests

theorem State.ClocksKept.refl (s : State) : s.ClocksKept s := ⟨id, id⟩

theorem State.ClocksKept.trans {s t u : State} (h : s.ClocksKept t) (k : t.ClocksKept u) : s.ClocksKept u :=
  ⟨k.settled ∘ h.settled, k.rests ∘ h.rests⟩

/-- What touches neither the clocks nor split mode keeps both invariants. -/
theorem State.ClocksKept.of_eq {s t : State} (hsplit : t.split = s.split) (hclocks : t.clocks = s.clocks) : s.ClocksKept t :=
  ⟨fun h k => hclocks ▸ h k, fun h hs => by rw [hclocks]; exact h (hsplit ▸ hs)⟩

/-- What keeps both invariants from a state with the same clocks and split mode on. -/
theorem State.ClocksKept.after {s t u : State} (h : t.ClocksKept u) (hsplit : t.split = s.split)
    (hclocks : t.clocks = s.clocks) : s.ClocksKept u := (State.ClocksKept.of_eq hsplit hclocks).trans h

/-- A change of one clock keeps both invariants when it keeps the clock settled, and the clock is in play or stays IDLE. -/
theorem State.ClocksKept.of_clock {s t : State} {h : Half} {c : Clock} (hsplit : t.split = s.split)
    (hclocks : t.clocks = s.clocks.set h c) (hsettled : (s.clocks.get h).Settled → c.Settled)
    (hrests : h = .a ∨ s.split = true ∨ ((s.clocks.get h).state = .idle → c.state = .idle)) : s.ClocksKept t := by
  refine ⟨fun hs k => ?settled, fun hb hoff => ?rests⟩
  case settled =>
    rw [hclocks, PerHalf.get_set]
    split
    · exact hsettled (hs h)
    · exact hs k
  case rests =>
    have hidle := hb (hsplit ▸ hoff)
    rw [hclocks]
    cases h with
    | a => exact hidle
    | b =>
      rcases hrests with ha | hon | hc
      · cases ha
      · rw [hsplit, hon] at hoff
        cases hoff
      · exact hc hidle

theorem State.ClocksKept.foldl {α : Type} {f : State → α → State} (hf : ∀ (t : State) x, t.ClocksKept (f t x)) :
    ∀ (l : List α) (s : State), s.ClocksKept (l.foldl f s)
  | [], s => .refl s
  | x :: l, s => (hf s x).trans (State.ClocksKept.foldl hf l (f s x))

/-- A reset of both clocks meets both invariants. -/
theorem State.ClocksKept.of_reset {s t : State} (hclocks : t.clocks = State.reset.clocks) : s.ClocksKept t := by
  have hreset : ∀ h, State.reset.clocks.get h = Clock.reset := fun h => by cases h <;> rfl
  exact ⟨fun _ h => by rw [hclocks, hreset]; exact Clock.settled_of_rest rfl rfl rfl, fun _ _ => by rw [hclocks]; rfl⟩

/-! ## The operations of the match clocks (R15, R22, R28, R33 to R36) -/

/-- R39: a half whose clock is in play, or not IDLE. -/
def State.InPlay (s : State) (h : Half) : Prop := h = .a ∨ s.split = true ∨ (s.clocks.get h).state ≠ .idle

theorem State.inPlay_of_half {s : State} {h : Half} (hh : h = .a ∨ s.split = true) : s.InPlay h := hh.imp_right .inl

theorem State.inPlay_of_started {s : State} {h : Half} (hc : (s.clocks.get h).state.started = true) : s.InPlay h :=
  .inr (.inr fun e => by simp [e, ClockState.started] at hc)

/-- A clock in play that comes to rest, without command hold and stop hold. -/
theorem State.ClocksKept.of_rest {s t : State} {h : Half} {c : Clock} (hh : s.InPlay h) (hsplit : t.split = s.split)
    (hclocks : t.clocks = s.clocks.set h c) (hs : c.state.started = false) (hcommand : c.commandHold = false)
    (hstop : c.stopHold = false) : s.ClocksKept t :=
  .of_clock hsplit hclocks (fun _ => Clock.settled_of_rest hs hcommand hstop) (hh.imp_right (Or.imp_right fun e k => absurd k e))

theorem State.turnover_kept {s : State} {h : Half} (hh : s.InPlay h) : s.ClocksKept (s.turnover h) :=
  .of_rest hh (by simp) (s.turnover_clocks h) rfl rfl rfl

theorem State.autoTurnover_kept {s : State} {h : Half} (hh : s.InPlay h) : s.ClocksKept (s.autoTurnover h) := by
  rw [State.autoTurnover]
  split
  · exact State.turnover_kept hh
  · exact .refl s

theorem State.endMatch_kept {s : State} {h : Half} (hh : s.InPlay h) : s.ClocksKept (s.endMatch h) := by
  have hended : s.ClocksKept (s.matchEnded h) := .of_rest hh (by simp [State.matchEnded]) (s.matchEnded_clocks h) rfl rfl rfl
  rw [State.endMatch_eq]
  split
  · exact hended.trans (State.turnover_kept (.inr (.inr (by simp [State.matchEnded_clocks]))))
  · exact hended

/-- R35, R36: what moves a clock in time or to another phase changes none of its hold causes. -/
theorem State.setClock_kept (s : State) (h : Half) {f : Clock → Clock}
    (hsettled : (s.clocks.get h).Settled → (f (s.clocks.get h)).Settled)
    (hstate : (f (s.clocks.get h)).state = (s.clocks.get h).state) : s.ClocksKept (s.setClock h f) :=
  .of_clock rfl rfl hsettled (.inr (.inr fun e => hstate.trans e))

theorem State.enterPhase_kept (s : State) (h : Half) (j : Fin 8) : s.ClocksKept (s.enterPhase h j) :=
  .of_clock (by simp) (s.enterPhase_clocks h j) id (.inr (.inr id))

theorem State.endPhase_kept {s : State} {h : Half} (hh : s.InPlay h) : s.ClocksKept (s.endPhase h) := by
  obtain ⟨j, -, hj⟩ | he := s.endPhase_eq h
  · exact hj ▸ s.enterPhase_kept h j
  · exact he ▸ State.endMatch_kept hh

theorem State.startMatch_kept {s : State} {h : Half} (hc : (s.clocks.get h).state = .armed)
    (hf : (s.clocks.get h).fieldStop = false) : s.ClocksKept (s.startMatch h) := by
  obtain ⟨j, hj⟩ | he := s.startMatch_eq h
  · refine .of_clock (by simp) (State.startMatch_clocks hj) (fun hs => ?_) (.inr (.inr (by simp [hc])))
    obtain ⟨hcommand, hstop⟩ := hs.atRest (by simp [hc, ClockState.started])
    cases hl : (s.clocks.get h).lineHold <;> simp [Clock.Settled, ClockState.started, hcommand, hstop, hf, hl]
  · have hzero : s.ClocksKept (s.zeroed h) :=
      .of_clock (by simp [State.zeroed]) (s.zeroed_clocks h) id (.inr (.inr id))
    exact he ▸ hzero.trans (State.endMatch_kept (.inr (.inr (by simp [State.zeroed_clocks, hc]))))

theorem State.clearMatch_kept {s : State} {h : Half} (hh : s.InPlay h) : s.ClocksKept (s.clearMatch h) :=
  .of_rest hh (by simp) (s.clearMatch_clocks h) rfl rfl rfl

/-! ## Hold causes and stops (R26, R38, R41 to R45) -/

theorem State.changeHolds_kept (s : State) (h : Half) {f : Clock → Clock}
    (hsettled : (s.clocks.get h).Settled → (f (s.clocks.get h)).settle.Settled)
    (hstate : (f (s.clocks.get h)).state = (s.clocks.get h).state) : s.ClocksKept (s.changeHolds h f) :=
  .of_clock (by simp) (s.changeHolds_clocks h f) hsettled (.inr (.inr fun e => Clock.settle_idle (hstate.trans e)))

theorem State.deriveHolds_kept (s : State) : s.ClocksKept s.deriveHolds :=
  have hderive : ∀ (t : State) h, t.ClocksKept (t.deriveHold h) := fun t h => t.changeHolds_kept h (fun hs => hs.lineHold _) rfl
  (hderive s .a).trans (hderive _ .b)

theorem State.latchStop_kept (s : State) (h : Half) (source : StopSource) : s.ClocksKept (s.latchStop h source) := by
  have hclocks := s.latchStop_clocks h source
  split at hclocks
  · exact .of_eq (by simp) hclocks
  · refine .of_clock (by simp) hclocks Clock.Settled.stopped (.inr (.inr fun e => ?_))
    simp [Clock.stopped, e, ClockState.started]

/-- R38: a stop latch is carried between clocks that are not started. -/
theorem State.carryStop_kept {s : State} {h : Half} (hc : (s.clocks.get h).state.started = false) (value : Bool) :
    s.ClocksKept (s.carryStop h value) := by
  refine .of_clock (by simp) (s.carryStop_clocks h value) (fun hs => ?_) (.inr (.inr id))
  obtain ⟨hcommand, hstop⟩ := hs.atRest hc
  exact Clock.settled_of_rest hc hcommand hstop

theorem State.latchFrom_kept (s : State) (h : Half) (n : Fin 4) : s.ClocksKept (s.latchFrom h n) := by
  rw [State.latchFrom]
  split
  · split
    · exact s.latchStop_kept h _
    · exact .refl s
  · exact .refl s

theorem State.setSplit_kept {s : State} (value : Bool) (ha : s.clocks.a.state = .idle) (hb : s.clocks.b.state = .idle) :
    s.ClocksKept (s.setSplit value) := by
  have hemptied : s.ClocksKept (s.splitEmptied value) := ⟨fun hs => hs, fun _ _ => hb⟩
  have hrest : ∀ h, ((s.splitEmptied value).clocks.get h).state.started = false := fun h => by
    cases h <;> simp [State.splitEmptied, PerHalf.get, ha, hb, ClockState.started]
  rw [State.setSplit_eq]
  refine hemptied.trans (.trans ?carried (State.deriveHolds_kept _))
  unfold State.splitCarried
  split
  · exact (State.carryStop_kept (hrest .b) _).trans (.foldl (fun t n => t.latchFrom_kept .b n) _ _)
  · refine (State.carryStop_kept (hrest .a) _).trans (State.carryStop_kept ?_ _)
    rw [State.carryStop_clocks, PerHalf.get_set_ne _ _ (by simp)]
    exact hrest .b
  · exact .refl _

theorem State.eachHalf_kept {f : State → Half → State} (hf : ∀ (t : State) h, t.ClocksKept (f t h)) (s : State)
    (target : LineTarget) : s.ClocksKept (s.eachHalf target f) := by
  have hfirst : s.ClocksKept (if s.targets target .a then f s .a else s) := by
    split
    · exact hf s .a
    · exact .refl s
  rw [State.eachHalf]
  split
  · exact hfirst.trans (hf _ .b)
  · exact hfirst

theorem State.startEdge_kept (s : State) (n : Fin 4) (h : Half) : s.ClocksKept (s.startEdge n h) := by
  rw [State.startEdge]
  split
  case isTrue hc => exact State.startMatch_kept hc.1 hc.2
  case isFalse => exact .of_eq rfl rfl

/-! ## Requests (R168 to R171) -/

/-- A verdict whose effect keeps both invariants in every state with the clocks that it was given on. -/
def Verdict.KeepsClocks (s : State) : Verdict → Prop
  | .refuse _ => True
  | .take _ effect => ∀ t : State, t.split = s.split → t.clocks = s.clocks → t.ClocksKept (effect t)

theorem Verdict.KeepsClocks.carryOut {s : State} {v : Verdict} (hv : v.KeepsClocks s) (tag : Byte) :
    s.ClocksKept (s.carryOut tag v) := by
  cases v with
  | refuse code => exact .of_eq (by simp) (by simp)
  | take code effect =>
    exact .after (hv (s.answer tag code []) (by simp) (by simp)) (by simp) (by simp)

theorem Verdict.KeepsClocks.require {s : State} {b : Bool} {code : ResultCode} {v : Verdict} (hv : b = true → v.KeepsClocks s) :
    (Verdict.require b code v).KeepsClocks s := by
  cases b with
  | true => exact hv rfl
  | false => trivial

theorem Verdict.KeepsClocks.need {α : Type} {s : State} {x : Option α} {code : ResultCode} {k : α → Verdict}
    (hk : ∀ a, (k a).KeepsClocks s) : (Verdict.need x code k).KeepsClocks s := by
  cases x with
  | some a => exact hk a
  | none => trivial

theorem State.clockOperand_keepsClocks {s : State} {clock : Byte} {k : Half → Verdict}
    (hk : ∀ h, h = .a ∨ s.split = true → (k h).KeepsClocks s) : (s.clockOperand clock k).KeepsClocks s :=
  .need fun h => .require fun hh => hk h (by simpa using hh)

/-- An effect that touches neither the clocks nor split mode. -/
theorem Verdict.keepsClocks_of_eq {s : State} {code : ResultCode} {effect : State → State}
    (hsplit : ∀ t, (effect t).split = t.split) (hclocks : ∀ t, (effect t).clocks = t.clocks) :
    (Verdict.take code effect).KeepsClocks s := fun t _ _ => .of_eq (hsplit t) (hclocks t)

/-- R15: a write of a pending bank, and the automatic turnover that may follow it. -/
theorem Verdict.keepsClocks_of_store {s : State} {h : Half} (hh : h = .a ∨ s.split = true) {code : ResultCode}
    {store : State → State} (hsplit : ∀ t, (store t).split = t.split) (hclocks : ∀ t, (store t).clocks = t.clocks) :
    (Verdict.take code fun t => (store t).autoTurnover h).KeepsClocks s := fun t ht _ =>
  .after (State.autoTurnover_kept (State.inPlay_of_half (by rwa [hsplit, ht]))) (hsplit t) (hclocks t)

theorem TableWrite.verdict_keepsClocks (s : State) (w : TableWrite) : (w.verdict s).KeepsClocks s := by
  cases w with
  | matchHeader clock index r =>
    exact State.clockOperand_keepsClocks fun h hh => .require fun _ => .need fun x => .require fun _ =>
      Verdict.keepsClocks_of_store hh (fun _ => rfl) fun _ => rfl
  | slot clock index r =>
    exact State.clockOperand_keepsClocks fun h hh => .need fun i => .require fun _ => .need fun x => .require fun _ =>
      .require fun _ => .require fun _ => Verdict.keepsClocks_of_store hh (fun _ => rfl) fun _ => rfl
  | station clock index r =>
    exact State.clockOperand_keepsClocks fun h hh => .need fun n => .require fun _ => .need fun x =>
      Verdict.keepsClocks_of_store hh (fun _ => rfl) fun _ => rfl
  | schedule clock index r =>
    exact State.clockOperand_keepsClocks fun h hh => .require fun _ => .need fun x => .require fun _ =>
      Verdict.keepsClocks_of_store hh (fun _ => rfl) fun _ => rfl
  | profile clock index r =>
    exact State.clockOperand_keepsClocks fun h hh => .need fun p => .need fun x =>
      Verdict.keepsClocks_of_store hh (fun _ => rfl) fun _ => rfl
  | element clock index r =>
    exact .need fun e => .require fun _ => .need fun x => .require fun _ =>
      Verdict.keepsClocks_of_eq (fun _ => by simp) fun _ => by simp
  | arenaLines clock index r =>
    exact .need fun n => .need fun action => .need fun target => Verdict.keepsClocks_of_eq (fun _ => rfl) fun _ => rfl
  | link clock index r =>
    exact .require fun _ => .need fun x => Verdict.keepsClocks_of_eq (fun _ => rfl) fun _ => rfl

end Sys2Proof.Machine
end


section
/-! PROOFS. The two invariants of the match clocks, over every command and every millisecond (R26, R39, R44). -/

namespace Sys2Proof.Machine

/-! ## Commands at their owners (R16, R27 to R34, R38, R44, R45, R171) -/

/-- R45: STOP_CLEAR releases the stop hold of its clock with the latch. -/
theorem State.stopCleared_kept (s : State) (h : Half) : s.ClocksKept (s.stopCleared h) :=
  .of_clock (by simp [State.stopCleared]) (s.stopCleared_clocks h)
    (fun hs => Clock.settle_settled (fun hr => ⟨(hs.atRest hr).1, rfl⟩) fun _ hf => by cases hf)
    (.inr (.inr fun e => Clock.settle_idle e))

theorem turnoverVerdict_keepsClocks (clock : Byte) (s : State) : (turnoverVerdict clock s).KeepsClocks s :=
  State.clockOperand_keepsClocks fun _ hh => .require fun _ => .require fun _ _ hsplit _ =>
    State.turnover_kept (State.inPlay_of_half (hsplit ▸ hh))

theorem startVerdict_keepsClocks (clock : Byte) (s : State) : (startVerdict clock s).KeepsClocks s := by
  refine State.clockOperand_keepsClocks fun h _ => .require fun hc => .require fun hf t _ hclocks => ?_
  rw [decide_eq_true_eq, ← hclocks] at hc
  rw [Bool.not_eq_true', ← hclocks] at hf
  exact State.startMatch_kept hc hf

theorem pauseVerdict_keepsClocks (clock : Byte) (s : State) : (pauseVerdict clock s).KeepsClocks s := by
  refine State.clockOperand_keepsClocks fun h _ => .require fun hc t _ hclocks => ?_
  rw [← hclocks] at hc
  exact t.changeHolds_kept h (fun hs => Clock.settle_settled (fun hr => by simp [hc] at hr) hs.stopHeld) rfl

theorem abortVerdict_keepsClocks (clock : Byte) (s : State) : (abortVerdict clock s).KeepsClocks s :=
  State.clockOperand_keepsClocks fun _ hh => .require fun _ _ hsplit _ =>
    State.endMatch_kept (State.inPlay_of_half (hsplit ▸ hh))

theorem clearVerdict_keepsClocks (clock : Byte) (s : State) : (clearVerdict clock s).KeepsClocks s :=
  State.clockOperand_keepsClocks fun _ hh => .require fun _ _ hsplit _ =>
    State.clearMatch_kept (State.inPlay_of_half (hsplit ▸ hh))

theorem fieldStopVerdict_keepsClocks (half : Byte) (s : State) : (fieldStopVerdict half s).KeepsClocks s :=
  State.clockOperand_keepsClocks fun h _ t _ _ => t.latchStop_kept h .command

theorem splitSetVerdict_keepsClocks (value : Byte) (s : State) : (splitSetVerdict value s).KeepsClocks s := by
  refine .need fun v => .require fun hidle t _ hclocks => ?_
  rw [Bool.and_eq_true, decide_eq_true_eq, decide_eq_true_eq] at hidle
  exact State.setSplit_kept v (hclocks ▸ hidle.1) (hclocks ▸ hidle.2)

/-- R31: ADVANCE is taken of a started clock only, so of one in play. -/
theorem advanceVerdict_keepsClocks (clock : Byte) (s : State) : (advanceVerdict clock s).KeepsClocks s := by
  refine State.clockOperand_keepsClocks fun h hh => .require fun _ t hsplit _ => ?_
  exact (t.setClock_kept h id rfl).trans (State.endPhase_kept (State.inPlay_of_half (by rwa [State.setClock_split, hsplit])))

theorem resumeVerdict_keepsClocks (clock : Byte) (s : State) : (resumeVerdict clock s).KeepsClocks s := by
  refine State.clockOperand_keepsClocks fun h hh => .require fun _ => .require fun _ t _ hclocks => ?_
  split
  · exact .refl t
  · exact t.changeHolds_kept h (fun hs => Clock.settle_settled (fun hr => ⟨rfl, (hs.atRest hr).2⟩) hs.stopHeld) rfl

theorem replayVerdict_keepsClocks (clock : Byte) (s : State) : (replayVerdict clock s).KeepsClocks s := by
  refine State.clockOperand_keepsClocks fun h hh => .require fun _ t hsplit _ => ?_
  exact .of_rest (State.inPlay_of_half (hsplit ▸ hh)) (by simp) (by simp; exact t.arm_clocks h) rfl rfl rfl

theorem stopClearVerdict_keepsClocks (half : Byte) (s : State) : (stopClearVerdict half s).KeepsClocks s := by
  refine State.clockOperand_keepsClocks fun h hh => .require fun _ t _ _ => ?_
  dsimp only
  split
  · exact t.stopCleared_kept h
  · exact .refl t

/-! ## Commands of the other blocks (R51, R54, R55, R99, R125, R132, R151, R157, R160) -/

theorem overrideVerdict_keepsClocks (slot value : Byte) (s : State) : (overrideVerdict slot value s).KeepsClocks s :=
  .need fun _ => .need fun _ => .require fun _ => Verdict.keepsClocks_of_eq (fun _ => rfl) fun _ => rfl

theorem stationResumeVerdict_keepsClocks (line : Byte) (s : State) : (stationResumeVerdict line s).KeepsClocks s :=
  .need fun _ => .require fun _ => Verdict.keepsClocks_of_eq (fun t => by split <;> simp) fun t => by split <;> simp

theorem linkFlagClearVerdict_keepsClocks (slot : Byte) (s : State) : (linkFlagClearVerdict slot).KeepsClocks s :=
  .need fun _ => Verdict.keepsClocks_of_eq (fun _ => rfl) fun _ => rfl

theorem applyLinkVerdict_keepsClocks (s : State) : (applyLinkVerdict s).KeepsClocks s :=
  .require fun _ => Verdict.keepsClocks_of_eq (fun t => by simp) fun t => by simp

theorem busModeVerdict_keepsClocks (mode period : Byte) (s : State) : (busModeVerdict mode period).KeepsClocks s :=
  .need fun _ => Verdict.keepsClocks_of_eq (fun t => by dsimp only; split <;> simp) fun t => by dsimp only; split <;> simp

theorem elementOutputVerdict_keepsClocks (element output value : Byte) (s : State) :
    (elementOutputVerdict element output value s).KeepsClocks s :=
  .need fun _ => .need fun _ => .require fun _ => .require fun _ => Verdict.keepsClocks_of_eq (fun _ => rfl) fun _ => rfl

theorem claimResetVerdict_keepsClocks (element : Byte) (s : State) : (claimResetVerdict element).KeepsClocks s :=
  .need fun _ => Verdict.keepsClocks_of_eq (fun t => by simp) fun t => by simp

theorem captureClearVerdict_keepsClocks (element sensor : Byte) (s : State) : (captureClearVerdict element sensor).KeepsClocks s :=
  .need fun _ => .need fun _ => Verdict.keepsClocks_of_eq (fun _ => rfl) fun _ => rfl

theorem scoreAdjustVerdict_keepsClocks (clock alliance : Byte) (delta : BitVec 16) (s : State) :
    (scoreAdjustVerdict clock alliance delta s).KeepsClocks s :=
  .need fun _ => .need fun _ => .require fun _ => .require fun _ => Verdict.keepsClocks_of_eq (fun _ => rfl) fun _ => rfl

/-! ## ARENA_RESET (R178) -/

theorem State.sampleLine_kept (s : State) (n : Fin 4) : s.ClocksKept (s.sampleLine n) := by
  have hengaged : s.ClocksKept ((s.setLine n fun y => { y with engaged := some ⟨y.action, y.target⟩ }).deriveHolds) :=
    (State.deriveHolds_kept _).after rfl rfl
  rw [State.sampleLine]
  split
  · split
    · exact hengaged.trans (State.eachHalf_kept (fun t h => t.latchStop_kept h _) _ _)
    · exact hengaged
  · exact .refl s

/-- R178: ARENA_RESET resets both clocks, and its samples keep them settled. -/
theorem State.arenaReset_kept (s : State) (tag : Byte) : s.ClocksKept (s.arenaReset tag) := by
  have hcleared : s.ClocksKept (s.arenaCleared.answer tag .ok []) := .of_reset (by simp [State.arenaCleared])
  have hconsole : ∀ (t : State) n, t.ClocksKept (t.sampleConsole n) := fun t n => by
    rw [State.sampleConsole]
    split
    · exact .of_eq (by simp) (by simp)
    · exact .refl t
  have hsampled : ∀ t : State, t.ClocksKept t.sampleAll := fun t =>
    (State.ClocksKept.foldl State.sampleLine_kept _ t).trans (.foldl hconsole _ _)
  have hbegun : ∀ t : State, t.ClocksKept (t.lookReady.beginCycle 0) := fun t => .of_eq (by simp) (by simp)
  exact (hcleared.trans (hsampled _)).trans (hbegun _)

theorem State.serveCommand_kept (s : State) (tag : Byte) (c : Command) : s.ClocksKept (s.serveCommand tag c) := by
  cases c with
  | turnover clock => exact (turnoverVerdict_keepsClocks clock s).carryOut tag
  | start clock => exact (startVerdict_keepsClocks clock s).carryOut tag
  | pause clock => exact (pauseVerdict_keepsClocks clock s).carryOut tag
  | resume clock => exact (resumeVerdict_keepsClocks clock s).carryOut tag
  | advance clock => exact (advanceVerdict_keepsClocks clock s).carryOut tag
  | abort clock => exact (abortVerdict_keepsClocks clock s).carryOut tag
  | replay clock => exact (replayVerdict_keepsClocks clock s).carryOut tag
  | clear clock => exact (clearVerdict_keepsClocks clock s).carryOut tag
  | splitSet value => exact (splitSetVerdict_keepsClocks value s).carryOut tag
  | fieldStop half => exact (fieldStopVerdict_keepsClocks half s).carryOut tag
  | stopClear half => exact (stopClearVerdict_keepsClocks half s).carryOut tag
  | override slot value => exact (overrideVerdict_keepsClocks slot value s).carryOut tag
  | stationResume line => exact (stationResumeVerdict_keepsClocks line s).carryOut tag
  | linkFlagClear slot => exact (linkFlagClearVerdict_keepsClocks slot s).carryOut tag
  | applyLink => exact (applyLinkVerdict_keepsClocks s).carryOut tag
  | busMode mode period => exact (busModeVerdict_keepsClocks mode period s).carryOut tag
  | elementOutput element output value => exact (elementOutputVerdict_keepsClocks element output value s).carryOut tag
  | claimReset element => exact (claimResetVerdict_keepsClocks element s).carryOut tag
  | captureClear element sensor => exact (captureClearVerdict_keepsClocks element sensor s).carryOut tag
  | scoreAdjust clock alliance delta => exact (scoreAdjustVerdict_keepsClocks clock alliance delta s).carryOut tag
  | countersClear =>
    exact (Verdict.keepsClocks_of_eq (code := .ok) (effect := State.clearCounters) (fun _ => rfl) fun _ => rfl).carryOut tag
  | arenaReset => exact s.arenaReset_kept tag

/-! ## The trunk port (R165 to R173) -/

theorem State.serve_kept (s : State) (tag : Byte) (r : Request) : s.ClocksKept (s.serve tag r) := by
  cases r with
  | write w => exact (w.verdict_keepsClocks s).carryOut tag
  | read table clock bank index =>
    rw [State.serve, State.serveRead]
    split <;> exact .of_eq (by simp) (by simp)
  | command c => exact s.serveCommand_kept tag c
  | pass address count expected bytes =>
    rw [State.serve, State.servePass]
    split <;> exact .of_eq (by simp) (by simp)

theorem State.dispatch_kept (s : State) (f : TrunkFrame) : s.ClocksKept (s.dispatch f) := by
  rw [State.dispatch]
  split
  · exact s.serve_kept _ _
  · exact .of_eq (by simp) (by simp)

theorem State.dispatchFrames_kept : ∀ (frames : List TrunkFrame) (s : State), s.ClocksKept (State.dispatchFrames frames s)
  | [], s => .refl s
  | f :: rest, s => by
    rw [State.dispatchFrames]
    split
    · exact ((State.dispatch_kept _ f).trans (State.dispatchFrames_kept rest _)).after rfl rfl
    · exact .refl s

theorem State.pump_kept (s : State) : s.ClocksKept s.pump := State.dispatchFrames_kept _ s

theorem State.acceptFrame_kept (s : State) (f : TrunkFrame) : s.ClocksKept (s.acceptFrame f) :=
  (State.pump_kept _).after rfl rfl

theorem State.submit_kept (s : State) (tag : Byte) (r : Request) : s.ClocksKept (s.submit tag r) := by
  rw [State.submit]
  split
  · exact s.acceptFrame_kept _
  · exact .of_eq rfl rfl

theorem State.judgeFrame_kept (s : State) (bytes : List Byte) (damaged : Bool) : s.ClocksKept (s.judgeFrame bytes damaged) := by
  simp only [State.judgeFrame]
  split
  · exact .of_eq rfl rfl
  · exact (State.acceptFrame_kept _ _).after rfl rfl

theorem trunkByteReceived_kept (b : Byte) (stopBad : Bool) (s : State) : s.ClocksKept (trunkByteReceived b stopBad s) := by
  rw [trunkByteReceived]
  split
  · split <;> exact .of_eq rfl rfl
  · rw [State.takeTrunkByte]
    split
    · split <;> exact .of_eq rfl rfl
    · split
      · exact s.judgeFrame_kept _ _
      · exact .of_eq rfl rfl

theorem trunkGapTimeout_kept (s : State) : s.ClocksKept (trunkGapTimeout s) := by
  rw [trunkGapTimeout]
  split <;> exact .of_eq rfl rfl

theorem trunkFrameSent_kept (s : State) : s.ClocksKept (trunkFrameSent s) := by
  rw [trunkFrameSent]
  split
  · exact .refl s
  · exact (State.pump_kept _).after rfl rfl

theorem passEnd_kept (answer : Option BusFrame) (s : State) : s.ClocksKept (passEnd answer s) := by
  rw [passEnd]
  split
  · exact (State.pump_kept _).after (by simp) (by simp)
  · exact .refl s

/-! ## Events of the clocks and the arena lines (R35, R36, R40 to R43) -/

theorem tenthEvent_kept (h : Half) (s : State) : s.ClocksKept (tenthEvent h s) := by
  rw [tenthEvent]
  split
  case isFalse => exact .refl s
  case isTrue hc =>
    have hcounted := s.setClock_kept h
      (f := fun c => { c with remaining := c.remaining - 1, elapsed := bump c.elapsed, tenthPos := 0 }) id rfl
    have hclaimed := hcounted.trans
      (.of_eq (t := (s.setClock h fun c =>
        { c with remaining := c.remaining - 1, elapsed := bump c.elapsed, tenthPos := 0 }).claimTenths h) (by simp) (by simp))
    dsimp only
    split
    · exact hclaimed.trans (State.endPhase_kept (State.inPlay_of_started (by simp [hc, ClockState.started])))
    · exact hclaimed

theorem phaseExpiry_kept (h : Half) (s : State) : s.ClocksKept (phaseExpiry h s) := by
  rw [phaseExpiry]
  split
  case isFalse => exact .refl s
  case isTrue hc =>
    exact (s.setClock_kept h id rfl).trans
      (State.endPhase_kept (State.inPlay_of_started (by simp [hc, ClockState.started])))

theorem arenaLineRisingEdge_kept (n : Fin 4) (s : State) : s.ClocksKept (arenaLineRisingEdge n s) := by
  have hengaged : s.ClocksKept (s.setLine n fun x => { x with level := true, engaged := some ⟨x.action, x.target⟩ }).deriveHolds :=
    (State.deriveHolds_kept _).after rfl rfl
  rw [arenaLineRisingEdge]
  dsimp only
  split
  · exact .refl s
  · split
    · exact hengaged.trans (State.eachHalf_kept (fun t h => t.startEdge_kept n h) _ _)
    · exact hengaged.trans (State.eachHalf_kept (fun t h => t.latchStop_kept h _) _ _)
    · exact hengaged
    · exact hengaged

theorem arenaLineFallingEdge_kept (n : Fin 4) (s : State) : s.ClocksKept (arenaLineFallingEdge n s) := by
  rw [arenaLineFallingEdge]
  split
  · exact (State.deriveHolds_kept _).after rfl rfl
  · exact .refl s

/-! ## Events of the other blocks (R56 to R60, R85, R103, R128, R181) -/

theorem controlFrame_kept (s : State) : s.ClocksKept (controlFrame s) := by
  rw [controlFrame]
  split
  · exact .refl s
  · split
    · exact .of_eq (by simp) (by simp)
    · exact .refl s

theorem pingEvent_kept (s : State) : s.ClocksKept (pingEvent s) := by
  rw [pingEvent]
  split
  · exact .refl s
  · split
    · exact .of_eq (by simp) (by simp)
    · exact .refl s

theorem breakStart_kept (n : Fin 12) (s : State) : s.ClocksKept (breakStart n s) := by
  rw [breakStart]
  split
  · exact .refl s
  · exact .of_eq (by simp) (by simp)

theorem slotWindowBegin_kept (ready : Bool) (s : State) : s.ClocksKept (slotWindowBegin ready s) := by
  rw [slotWindowBegin]
  split
  · exact .of_eq (by simp) (by simp)
  · exact .refl s

theorem radioFrameDamaged_kept (whole : Bool) (bytes : List Byte) (s : State) : s.ClocksKept (radioFrameDamaged whole bytes s) := by
  rw [radioFrameDamaged]
  split <;> exact .of_eq (by simp) (by simp)

theorem pollBegin_kept (s : State) : s.ClocksKept (pollBegin s) := by
  rw [pollBegin]
  split
  · split <;> exact .of_eq (by simp) (by simp)
  · exact .refl s

theorem pollEnd_kept (answer : Option BusFrame) (s : State) : s.ClocksKept (pollEnd answer s) := by
  rw [pollEnd]
  split
  · split <;> exact .of_eq (by simp) (by simp)
  · exact .refl s

theorem strayBytes_kept (s : State) : s.ClocksKept (strayBytes s) := by
  rw [strayBytes]
  split
  · exact .of_eq (by simp) (by simp)
  · exact .refl s

/-! ## One millisecond -/

theorem tickClock_kept (h : Half) (s : State) : s.ClocksKept (tickClock h s) := by
  rw [tickClock]
  split
  · split
    · exact s.setClock_kept h id rfl
    · exact tenthEvent_kept h s
  · exact .refl s

theorem tickSilence_kept (s : State) (n : Fin 12) : s.ClocksKept (tickSilence s n) := by
  rw [tickSilence]
  split
  · exact .refl s
  · split <;> exact .of_eq (by simp) (by simp)

theorem tickLiveness_kept (s : State) (i : Fin 24) : s.ClocksKept (tickLiveness s i) := by
  rw [tickLiveness]
  split
  · exact .refl s
  · split <;> exact .of_eq (by simp) (by simp)

theorem tickRadio_kept (s : State) : s.ClocksKept (tickRadio s) := by
  simp only [tickRadio]
  split
  · exact .of_eq (by simp) (by simp)
  · split
    · split <;> exact .of_eq (by simp) (by simp)
    · exact .of_eq (by simp) (by simp)
    · split <;> exact .of_eq (by simp) (by simp)
    · exact .of_eq (by simp) (by simp)
    · exact .of_eq (by simp) (by simp)

theorem tickBus_kept (s : State) : s.ClocksKept (tickBus s) := by
  simp only [tickBus]
  split
  · exact .of_eq (by simp) (by simp)
  · split
    · split <;> exact .of_eq (by simp) (by simp)
    · exact .refl s

theorem tick_kept (s : State) : s.ClocksKept (tick s) := by
  have hclocks := (tickClock_kept .a s).trans (tickClock_kept .b _)
  have hsilence := hclocks.trans (.foldl tickSilence_kept (List.finRange 12) _)
  have hliveness := hsilence.trans (.foldl tickLiveness_kept (List.finRange 24) _)
  have hrest : ∀ t : State, t.ClocksKept (tickBus (tickRadio (tickOutputs t))) := fun t =>
    ((tickRadio_kept _).trans (tickBus_kept _)).after (by simp [tickOutputs]) (by simp [tickOutputs])
  simp only [tick]
  exact hliveness.trans (hrest _)

/-! ## Every command, every step -/

/-- A row that is a trunk request hands its frame to the trunk port. -/
theorem exec_of_rowRequest {c : Instr} {r : Request} (hr : rowRequest c = some r) (s : State) :
    ∃ tag, exec c s = .next (s.submit tag r) := by
  cases c <;> cases hr <;> exact ⟨_, rfl⟩

/-- A row that is an event answers a next state, and keeps both invariants. -/
theorem exec_event_kept {c : Instr} (hr : rowRequest c = none) (s : State) : ∃ t, exec c s = .next t ∧ s.ClocksKept t := by
  cases c with
  | powerOnReset levels ready => exact ⟨_, rfl, .of_reset (by simp [powerOnReset])⟩
  | trunkByteReceived byte stopBad => exact ⟨_, rfl, trunkByteReceived_kept byte stopBad s⟩
  | trunkGapTimeout => exact ⟨_, rfl, trunkGapTimeout_kept s⟩
  | trunkFrameSent => exact ⟨_, rfl, trunkFrameSent_kept s⟩
  | tenthEvent clock => exact ⟨_, rfl, tenthEvent_kept clock s⟩
  | phaseExpiry clock => exact ⟨_, rfl, phaseExpiry_kept clock s⟩
  | arenaLineRisingEdge line => exact ⟨_, rfl, arenaLineRisingEdge_kept line s⟩
  | arenaLineFallingEdge line => exact ⟨_, rfl, arenaLineFallingEdge_kept line s⟩
  | passEnd answer => exact ⟨_, rfl, passEnd_kept answer s⟩
  | controlFrame => exact ⟨_, rfl, controlFrame_kept s⟩
  | ping => exact ⟨_, rfl, pingEvent_kept s⟩
  | breakStart line => exact ⟨_, rfl, breakStart_kept line s⟩
  | slotWindowBegin ready => exact ⟨_, rfl, slotWindowBegin_kept ready s⟩
  | radioFrameDamaged whole bytes => exact ⟨_, rfl, radioFrameDamaged_kept whole bytes s⟩
  | pollBegin => exact ⟨_, rfl, pollBegin_kept s⟩
  | pollEnd answer => exact ⟨_, rfl, pollEnd_kept answer s⟩
  | elementBusStrayBytes bytes => exact ⟨_, rfl, strayBytes_kept s⟩
  | silenceTimerExpiry station => exact ⟨_, rfl, .of_eq (by simp) (by simp)⟩
  | consoleCharacterReceived line byte framing => exact ⟨_, rfl, .of_eq rfl rfl⟩
  | gap line => exact ⟨_, rfl, .of_eq rfl rfl⟩
  | breakEnd line => exact ⟨_, rfl, .of_eq rfl rfl⟩
  | consoleFrameSent line => exact ⟨_, rfl, .of_eq rfl rfl⟩
  | cycleBegin ready => exact ⟨_, rfl, .of_eq (by simp [cycleBegin]) (by simp [cycleBegin])⟩
  | slotWindowEnd => exact ⟨_, rfl, .of_eq (by simp [slotWindowEnd]) (by simp [slotWindowEnd])⟩
  | replyReceived arena slot kit battery status payload => exact ⟨_, rfl, .of_eq (by simp) (by simp)⟩
  | joinReceived arena kit kitClass => exact ⟨_, rfl, .of_eq (by simp) (by simp)⟩
  | livenessExpiry slot => exact ⟨_, rfl, .of_eq (by simp) (by simp)⟩
  | pulseExpiry element output => exact ⟨_, rfl, .of_eq rfl rfl⟩
  | blinkPeriodEnd element output => exact ⟨_, rfl, .of_eq rfl rfl⟩
  | sweepStart => exact ⟨_, rfl, .of_eq (by simp) (by simp)⟩
  | busResetWaitEnd => exact ⟨_, rfl, .of_eq (by simp) (by simp)⟩
  | holdTimerExpiry element => exact ⟨_, rfl, .of_eq (by simp) (by simp)⟩
  | _ => cases hr

theorem exec_kept (c : Instr) (s : State) : ∃ t, exec c s = .next t ∧ s.ClocksKept t := by
  cases hr : rowRequest c with
  | some r =>
    obtain ⟨tag, ht⟩ := exec_of_rowRequest hr s
    exact ⟨_, ht, s.submit_kept tag r⟩
  | none => exact exec_event_kept hr s

/-- Every step keeps both invariants of the match clocks. -/
theorem step_kept {s t : State} (ht : step s = .next t) : s.ClocksKept t := by
  rw [step] at ht
  split at ht
  case h_1 => exact Host.Outcome.next.inj ht ▸ tick_kept s
  case h_2 c rest hp =>
    obtain ⟨u, hu, hk⟩ := exec_kept c { s with pending := rest }
    rw [hu] at ht
    cases ht
    exact hk.after rfl rfl

/-- Settles O9, by the invariant of one step. -/
theorem stepsKeepHoldsSettled : Obligations.StepsKeepHoldsSettled := fun _ _ hs ht => (step_kept ht).settled hs

/-- Settles O10, by the invariant of one step. -/
theorem stepsKeepClockBAtRest : Obligations.StepsKeepClockBAtRest := fun _ _ hs ht => (step_kept ht).rests hs

end Sys2Proof.Machine
end

section
/-! PROOFS. Writes of the arena lines and the link profile, and the clock commands that change hold causes or clear a match (R29,
R30, R33, R34, R40, R98). -/

namespace Sys2Proof.Machine

/-! ## States compared block by block -/

/-- Two states are the same when every block of the one is that of the other. -/
theorem State.eq_of_blocks {s t : State} (tables : s.tables = t.tables) (clocks : s.clocks = t.clocks) (split : s.split = t.split)
    (lines : s.lines = t.lines) (slots : s.slots = t.slots) (stations : s.stations = t.stations) (served : s.served = t.served)
    (console : s.console = t.console) (radio : s.radio = t.radio) (links : s.links = t.links) (entries : s.entries = t.entries)
    (outputs : s.outputs = t.outputs) (bus : s.bus = t.bus) (elements : s.elements = t.elements) (claims : s.claims = t.claims)
    (sensors : s.sensors = t.sensors) (scores : s.scores = t.scores) (trunk : s.trunk = t.trunk)
    (pending : s.pending = t.pending) : s = t := by
  cases s; cases t; simp_all

/-- A REPLY touches the trunk port only. -/
theorem State.replied_eq (s : State) (tag : Byte) (code : ResultCode) :
    s.replied tag code = { s with trunk := (s.replied tag code).trunk } := rfl

/-- R25: the CLOCK_STATE report of a clock, queued behind what another state has queued. -/
theorem State.reportClock_trunk {s t : State} {h : Half} {c : Clock} (hc : t.clocks.get h = c) (e : t.trunk = s.trunk) :
    (t.reportClock h).trunk =
      (s.report (.clockState h c.state c.commandHold c.lineHold c.stopHold c.phase)).trunk := by
  subst hc
  exact State.report_trunk_congr e _

/-! ## WRITE_ARENA_LINES and WRITE_LINK (R40, R98) -/

theorem decodeIndex_none {n : Nat} {b : Byte} (hb : n ≤ b.toNat) : decodeIndex n b = none := by
  simp [decodeIndex, Nat.not_lt.mpr hb]

/-- R98: a LINK record of known codes, with its cycle period brought into 10-100 ms. -/
theorem linkItem_code (channel : Fin 16) (rate : AirRate) (arena period : Byte) (join : Bool) :
    linkItem ⟨num8 channel.val, codeAirRate rate, arena, period, codeYN join⟩ =
      some (⟨channel, rate, arena, max 10 (min period.toNat 100), join⟩, decide (¬ (10 ≤ period.toNat ∧ period.toNat ≤ 100))) := by
  have hclamped : clampNat 10 100 period.toNat ≠ period.toNat ↔ ¬ (10 ≤ period.toNat ∧ period.toNat ≤ 100) := by
    rw [clampNat]
    omega
  simp only [linkItem, decodeIndex_fin16, decodeAirRate_code, decodeYN_code, decide_eq_decide.mpr hclamped]
  rfl

/-- Settles O33: the owners of both tables take every index of theirs, and store the record. -/
theorem lineAndLinkWritesAreStored : Obligations.LineAndLinkWritesAreStored := by
  refine ⟨fun s tag clock n action target hs => congrArg Host.Outcome.next ?lines,
    fun s tag clock channel rate arena period join hs => congrArg Host.Outcome.next ?link,
    fun s tag clock index line link hs =>
      ⟨fun hi => congrArg Host.Outcome.next ?lineIndex, fun hi => congrArg Host.Outcome.next ?linkIndex⟩⟩
  case lines =>
    rw [State.submit_write hs]
    simp [TableWrite.verdict, writeLinesVerdict]
    rfl
  case link =>
    rw [State.submit_write hs]
    by_cases hp : 10 ≤ period.toNat ∧ period.toNat ≤ 100 <;>
      simp [TableWrite.verdict, writeLinkVerdict, linkItem_code, codeOf, hp] <;> rfl
  case lineIndex =>
    rw [State.submit_write hs, TableWrite.verdict, writeLinesVerdict, decodeIndex_none hi, Verdict.need_none,
      State.carryOut_refuse, State.counted_answer]
  case linkIndex =>
    rw [State.submit_write hs, TableWrite.verdict, writeLinkVerdict, beq_false_of_ne hi, Verdict.require_false,
      State.carryOut_refuse, State.counted_answer]

/-! ## PAUSE and RESUME (R29, R30) -/

/-- R25, R26: a change of hold causes that changes the clock is reported. -/
theorem State.changeHolds_reports {s : State} {h : Half} {f : Clock → Clock} {c : Clock}
    (hc : (f (s.clocks.get h)).settle = c)
    (hne : ¬ (c.state = (s.clocks.get h).state ∧ c.commandHold = (s.clocks.get h).commandHold ∧
      c.lineHold = (s.clocks.get h).lineHold ∧ c.stopHold = (s.clocks.get h).stopHold)) :
    s.changeHolds h f = { s with
      clocks := s.clocks.set h c
      trunk := (s.report (.clockState h c.state c.commandHold c.lineHold c.stopHold c.phase)).trunk } := by
  subst hc
  simp only [State.changeHolds, if_neg hne, State.reportClock, State.setClock_clocks, PerHalf.get_modify_self]
  rfl

/-- R29: what PAUSE answers. -/
theorem State.submit_pause {s : State} {h : Half} (hs : s.Ready) (hh : h = .a ∨ s.split = true) (tag : Byte) :
    s.submit tag (.command (.pause (codeHalf h))) =
      if (s.clocks.get h).state.started = true then
        (s.replied tag .ok).changeHolds h fun c => { c with commandHold := true }
      else s.replied tag .wrongState := by
  rw [State.submit_clock hs hh rfl]
  cases hc : (s.clocks.get h).state.started <;> simp [hc]

/-- R30: what RESUME answers. -/
theorem State.submit_resume {s : State} {h : Half} (hs : s.Ready) (hh : h = .a ∨ s.split = true) (tag : Byte) :
    s.submit tag (.command (.resume (codeHalf h))) =
      if (s.clocks.get h).state = .running then s.replied tag .ok
      else if (s.clocks.get h).state = .paused then
        if (s.clocks.get h).fieldStop = true then s.replied tag .stillAsserted
        else (s.replied tag .ok).changeHolds h fun c => { c with commandHold := false }
      else s.replied tag .wrongState := by
  rw [State.submit_clock hs hh rfl]
  cases hc : (s.clocks.get h).state <;> cases hf : (s.clocks.get h).fieldStop <;> simp [hc, hf, ClockState.started]

/-- R26, R29: a started clock settles PAUSED under its command hold. -/
theorem Clock.settle_commandHold {c : Clock} (hc : c.state.started = true) :
    ({ c with commandHold := true } : Clock).settle = { c with state := .paused, commandHold := true } := by
  simp [Clock.settle, hc]

/-- R26, R30: a PAUSED clock without its command hold settles by the holds that are left. -/
theorem Clock.settle_noCommandHold {c : Clock} (hc : c.state = .paused) :
    ({ c with commandHold := false } : Clock).settle =
      { c with state := if c.lineHold || c.stopHold then .paused else .running, commandHold := false } := by
  simp [Clock.settle, hc, ClockState.started]

/-- Settles O24: PAUSE and RESUME change the command hold alone, and R26 settles the clock. -/
theorem pauseAndResumeMoveTheCommandHold : Obligations.PauseAndResumeMoveTheCommandHold := by
  refine ⟨fun s tag h hs hh => congrArg Host.Outcome.next ?pause, fun s tag h hs hh hsettled => congrArg Host.Outcome.next ?resume⟩
  case pause =>
    rw [State.submit_pause hs hh]
    refine ite_congr rfl (fun hc => ?_) fun _ => rfl
    have hpaused := Clock.settle_commandHold hc
    split
    case isTrue hsame =>
      refine State.changeHolds_same (s.replied tag .ok) h _ (hpaused.trans ?_)
      rw [← hsame.1, ← hsame.2]
      rfl
    case isFalse hdiffers =>
      exact State.changeHolds_reports (s := s.replied tag .ok) hpaused fun hsame => hdiffers ⟨hsame.1.symm, hsame.2.1.symm⟩
  case resume =>
    rw [State.submit_resume hs hh]
    refine ite_congr rfl (fun _ => rfl) fun _ => ite_congr rfl (fun hc => ite_congr rfl (fun _ => rfl) fun _ => ?_) fun _ => rfl
    split
    case isTrue hheld =>
      exact State.changeHolds_reports (s := s.replied tag .ok) (Clock.settle_noCommandHold hc) fun hsame =>
        Bool.false_ne_true (hsame.2.1.trans hheld)
    case isFalse hfree =>
      refine State.changeHolds_same (s.replied tag .ok) h _ (Eq.trans ?_ (Clock.settle_of_settled hsettled))
      rw [← Bool.eq_false_iff.mpr hfree]
      rfl

end Sys2Proof.Machine
end

section
/-! PROOFS. REPLAY and CLEAR, block by block (R33, R34). -/

namespace Sys2Proof.Machine

/-! ## What a match leaves behind (R21, R33, R34) -/

@[simp] theorem State.clearScoring_scores (s : State) (h : Half) : (s.clearScoring h).scores = s.scores.set h Scores.zero := by
  simp [State.clearScoring, PerHalf.modify_eq]

@[simp] theorem State.clearScoring_sensors (s : State) (h : Half) (e : Fin 32) (k : Fin 2) :
    ((s.clearScoring h).sensors.get e).get k = if s.elementHalf e = h then
      { (s.sensors.get e).get k with count := 0, captured := false, captureTime := 0 } else (s.sensors.get e).get k := by
  simp [State.clearScoring]

@[simp] theorem State.zeroMatch_slots (s : State) (h : Half) (i : Fin 24) :
    (s.zeroMatch h).slots.get i = if s.slotHalf i = h then
      { s.slots.get i with targets := .fill 0, lastSent := .fill 0, buttons := 0 } else s.slots.get i := by
  by_cases hi : s.slotHalf i = h <;> simp [State.zeroMatch, hi, SlotAdmission.zeroTargets, SlotAdmission.zeroSent]

@[simp] theorem State.zeroMatch_stations (s : State) (h : Half) (n : Fin 12) :
    (s.zeroMatch h).stations.get n =
      if s.stationHalf n = h then { s.stations.get n with silence := none } else s.stations.get n := by
  simp [State.zeroMatch]

/-! ## REPLAY (R33) -/

/-- R33: the match of a clock armed again. -/
def State.replayed (s : State) (h : Half) : State := ((((s.arm h).reportClock h).flushSilent h).clearScoring h).zeroMatch h

/-- R33: what REPLAY answers once a match has been started. -/
theorem State.submit_replay {s : State} {h : Half} (hs : s.Ready) (hh : h = .a ∨ s.split = true)
    (hc : (s.clocks.get h).state = .running ∨ (s.clocks.get h).state = .paused ∨ (s.clocks.get h).state = .ended) (tag : Byte) :
    s.submit tag (.command (.replay (codeHalf h))) = (s.replied tag .ok).replayed h := by
  rw [State.submit_clock hs hh rfl]
  rcases hc with hc | hc | hc <;> simp [hc, ClockState.started, State.replayed]

theorem State.replayed_clocks (s : State) (h : Half) : (s.replayed h).clocks = (s.arm h).clocks := by simp [State.replayed]

theorem State.replayed_trunk (s : State) (h : Half) :
    (s.replayed h).trunk = (s.report (.clockState h .armed false (s.lineHold h) false 0)).trunk := by
  have hclock := congrArg (·.get h) (s.arm_clocks h)
  simp only [PerHalf.get_set_self] at hclock
  simp only [State.replayed, State.zeroMatch_keeps, State.clearScoring_keeps, State.flushSilent_keeps]
  exact State.reportClock_trunk hclock rfl

/-- Settles O26: each block of the state is that of the match armed again. -/
theorem replayRearmsTheMatch : Obligations.ReplayRearmsTheMatch := by
  intro s tag h hs hh hc
  refine ⟨_, congrArg Host.Outcome.next (State.submit_replay hs hh hc tag), ?clocks, ?claims, ?scores, ?sensors, ?slots,
    ?stations, State.replayed_trunk _ h, ?frame⟩
  case clocks =>
    rw [State.replayed_clocks, State.arm_clocks]
    simp
  case claims => simp [State.replayed]
  case scores => simp [State.replayed, Scores.zero]
  case sensors => simp [State.replayed]
  case slots => simp [State.replayed]
  case stations => simp [State.replayed]
  case frame => apply State.eq_of_blocks <;> simp [State.replayed]

/-! ## CLEAR (R34) -/

/-- R34: with the active bank emptied, every link of the half is dropped to VACANT. -/
theorem State.clearMatch_links (s : State) (h : Half) (i : Fin 24) :
    (s.clearMatch h).links.get i =
      if s.slotHalf i = h then { s.links.get i with state := .vacant, liveness := none } else s.links.get i := by
  by_cases hc : (s.clocks.get h).state = .idle <;>
    simp [State.clearMatch, hc, State.dropLinks, State.active, Bank.empty, SlotEntry.empty]

theorem State.clearMatch_tables (s : State) (h : Half) :
    (s.clearMatch h).tables = s.tables.set h { s.tables.get h with active := .empty } := by
  by_cases hc : (s.clocks.get h).state = .idle <;> simp [State.clearMatch, hc, PerHalf.modify_eq]

theorem State.clearMatch_slots (s : State) (h : Half) (i : Fin 24) :
    (s.clearMatch h).slots.get i = if s.slotHalf i = h then
      { s.slots.get i with targets := .fill 0, lastSent := .fill 0, buttons := 0, override := .auto } else s.slots.get i := by
  by_cases hc : (s.clocks.get h).state = .idle <;> by_cases hi : s.slotHalf i = h <;>
    simp [State.clearMatch, hc, hi, State.autoOverrides]

theorem State.clearMatch_stations (s : State) (h : Half) (n : Fin 12) :
    (s.clearMatch h).stations.get n =
      if s.stationHalf n = h then { s.stations.get n with silence := none } else s.stations.get n := by
  by_cases hc : (s.clocks.get h).state = .idle <;> simp [State.clearMatch, hc]

theorem State.clearMatch_claims (s : State) (h : Half) (e : Fin 32) :
    (s.clearMatch h).claims.get e = if s.elementHalf e = h then Claim.empty else s.claims.get e := by
  by_cases hc : (s.clocks.get h).state = .idle <;> simp [State.clearMatch, hc]

theorem State.clearMatch_scores (s : State) (h : Half) : (s.clearMatch h).scores = s.scores.set h Scores.zero := by
  by_cases hc : (s.clocks.get h).state = .idle <;> simp [State.clearMatch, hc]

theorem State.clearMatch_sensors (s : State) (h : Half) (e : Fin 32) (k : Fin 2) :
    ((s.clearMatch h).sensors.get e).get k = if s.elementHalf e = h then
      { (s.sensors.get e).get k with count := 0, captured := false, captureTime := 0 } else (s.sensors.get e).get k := by
  by_cases hc : (s.clocks.get h).state = .idle <;> simp [State.clearMatch, hc]

/-- Settles O27: each block of the state is that of the cleared match. -/
theorem clearEmptiesTheMatch : Obligations.ClearEmptiesTheMatch := by
  intro s tag h hs hh hc
  have hexec : exec (.clear tag (codeHalf h)) s = .next ((s.replied tag .ok).clearMatch h) :=
    congrArg Host.Outcome.next (by rw [State.submit_clear hs hh, if_neg (by simp [hc])])
  refine ⟨_, hexec, ?clocks, ?tables, ?links, ?slots, ?claims, ?scores, ?sensors, ?stations, ?frame⟩
  case clocks => simp [State.clearMatch_clocks]
  case tables => simp [State.clearMatch_tables]
  case links => simp [State.clearMatch_links]
  case slots => simp [State.clearMatch_slots]
  case claims => simp [State.clearMatch_claims]
  case scores => simp [State.clearMatch_scores, Scores.zero]
  case sensors => simp [State.clearMatch_sensors]
  case stations => simp [State.clearMatch_stations]
  case frame => apply State.eq_of_blocks <;> simp

end Sys2Proof.Machine
end

section
/-! PROOFS. FIELD_STOP and STOP_CLEAR (R44, R45, R148). -/

namespace Sys2Proof.Machine

/-! ## A half stopped (R44, R148) -/

theorem State.sharedIn_iff (s : State) (h : Half) (e : Fin 32) :
    s.sharedIn h e = true ↔ s.elementHalf e = h ∧ (s.entries.get e).owner = .shared := by
  simp [State.sharedIn]

/-- R44: the state of a latch just set and told, before its clock is held. -/
def State.latched (s : State) (h : Half) (source : StopSource) : State :=
  (s.setClock h fun c => { c with fieldStop := true }).report (.stop h source true)

/-- R44: the holds that a stop sets on a started clock. -/
def Clock.holdStopped (c : Clock) : Clock := { c with stopHold := true, commandHold := true }

/-- R44: the state of a latch set now, before the claims of its half are flushed. -/
def State.stopHeld (s : State) (h : Half) (source : StopSource) : State :=
  if (s.clocks.get h).state.started then (s.latched h source).changeHolds h Clock.holdStopped else s.latched h source

theorem State.latchStop_of_clear {s : State} {h : Half} (hf : (s.clocks.get h).fieldStop = false) (source : StopSource) :
    s.latchStop h source = (s.stopHeld h source).flushStopped h := by
  rw [State.latchStop, if_neg (by simp [hf])]
  rfl

theorem State.stopHeld_claims (s : State) (h : Half) (source : StopSource) :
    (s.stopHeld h source).claims = s.claims ∧ (s.stopHeld h source).sharedIn h = s.sharedIn h := by
  have hkept : (s.stopHeld h source).claims = s.claims ∧ (s.stopHeld h source).elementHalf = s.elementHalf ∧
      (s.stopHeld h source).entries = s.entries := by
    simp only [State.stopHeld, State.latched]
    split <;> simp
  obtain ⟨hclaims, hhalf, hentries⟩ := hkept
  exact ⟨hclaims, by funext e; simp only [State.sharedIn, hhalf, hentries]⟩

/-- R148: the claims of a half stopped now. -/
theorem State.latchStop_claims {s : State} {h : Half} (hf : (s.clocks.get h).fieldStop = false) (source : StopSource) (e : Fin 32) :
    (s.latchStop h source).claims.get e =
      if s.sharedIn h e = true then (s.claims.get e).flushed else s.claims.get e := by
  obtain ⟨hclaims, hshared⟩ := s.stopHeld_claims h source
  rw [State.latchStop_of_clear hf, State.flushStopped_claims, hclaims, hshared]

/-- R44: the STOP report of a latch set now goes before the CLOCK_STATE report of its clock. -/
theorem State.stopHeld_trunk (s : State) (h : Half) (source : StopSource) :
    (s.stopHeld h source).trunk =
      (let told := s.report (.stop h source true)
      if (s.clocks.get h).state.started = true ∧ ¬ ((s.clocks.get h).state = .paused ∧ (s.clocks.get h).commandHold = true
          ∧ (s.clocks.get h).stopHold = true)
      then told.report (.clockState h .paused true (s.clocks.get h).lineHold true (s.clocks.get h).phase) else told).trunk := by
  have hclock : (s.latched h source).clocks.get h = { s.clocks.get h with fieldStop := true } := by simp [State.latched]
  by_cases hs : (s.clocks.get h).state.started = true
  case neg => rw [State.stopHeld, if_neg hs, if_neg fun hc => hs hc.1]; rfl
  case pos =>
    have hsettle : ((s.latched h source).clocks.get h).holdStopped.settle = (s.clocks.get h).stopped := by
      rw [hclock, Clock.stopped_of_started hs]
      simp [Clock.holdStopped, Clock.settle, hs]
    have hheld : s.stopHeld h source = (s.latched h source).changeHolds h Clock.holdStopped := if_pos hs
    rw [hheld]
    by_cases hsame : (s.clocks.get h).state = .paused ∧ (s.clocks.get h).commandHold = true ∧ (s.clocks.get h).stopHold = true
    · rw [if_neg fun hc => hc.2 hsame, State.changeHolds_same]
      · rfl
      · rw [hsettle, hclock, Clock.stopped_of_started hs]
        simp [hsame]
    · rw [if_pos ⟨hs, hsame⟩, State.changeHolds_reports hsettle]
      · rw [Clock.stopped_of_started hs]; rfl
      · rw [hclock, Clock.stopped_of_started hs]
        exact fun hc => hsame ⟨hc.1.symm, hc.2.1.symm, hc.2.2.2.symm⟩

theorem State.latchStop_trunk {s : State} {h : Half} (hf : (s.clocks.get h).fieldStop = false) (source : StopSource) :
    (s.latchStop h source).trunk = (s.stopHeld h source).trunk := by
  rw [State.latchStop_of_clear hf]
  simp

/-! ## FIELD_STOP and STOP_CLEAR (R44, R45) -/

/-- R44: what FIELD_STOP answers. -/
theorem State.submit_fieldStop {s : State} {h : Half} (hs : s.Ready) (hh : h = .a ∨ s.split = true) (tag : Byte) :
    s.submit tag (.command (.fieldStop (codeHalf h))) = (s.replied tag .ok).latchStop h .command := by
  rw [State.submit_clock hs hh rfl]
  rfl

/-- R45: what STOP_CLEAR answers. -/
theorem State.submit_stopClear {s : State} {h : Half} (hs : s.Ready) (hh : h = .a ∨ s.split = true) (tag : Byte) :
    s.submit tag (.command (.stopClear (codeHalf h))) =
      if s.engagedWith .stop h = true then s.replied tag .stillAsserted
      else if (s.clocks.get h).fieldStop = true then (s.replied tag .ok).stopCleared h else s.replied tag .ok := by
  rw [State.submit_clock hs hh rfl]
  cases he : s.engagedWith .stop h <;> simp [he, State.stopCleared]

/-- R42, R43: some line is engaged with an action and a target that includes the half. -/
theorem State.engagedWith_iff (s : State) (action : LineAction) (h : Half) :
    s.engagedWith action h = true ↔
      ∃ n g, (s.lines.get n).engaged = some g ∧ g.action = action ∧ s.targets g.target h = true := by
  simp only [State.engagedWith, List.any_eq_true, List.mem_finRange, true_and]
  refine exists_congr fun n => ?_
  cases (s.lines.get n).engaged <;> simp

/-- R45: a clock released settles by its command hold and its line hold. -/
theorem Clock.settle_released (c : Clock) :
    ({ c with fieldStop := false, stopHold := false } : Clock).settle = { c with
      fieldStop := false, stopHold := false
      state := if c.state.started then (if c.commandHold || c.lineHold then .paused else .running) else c.state } := by
  simp [Clock.settle]

theorem Half.ne_other (h : Half) : h ≠ h.other := by cases h <;> simp [Half.other]

/-- Settles O29: FIELD_STOP latches the replied state, and STOP_CLEAR releases it when no engaged STOP line forbids it. -/
theorem fieldStopAndStopClear : Obligations.FieldStopAndStopClear := by
  refine ⟨fun s tag h hs hh => ⟨fun hf => congrArg Host.Outcome.next ?latched, fun hf => ⟨_, congrArg Host.Outcome.next
      (State.submit_fieldStop hs hh tag), ?clocks, ?flushed, ?kept, ?trunk, ?frame⟩⟩,
    fun s tag h hs hh => ⟨fun he => congrArg Host.Outcome.next ?asserted, fun he =>
      ⟨fun hf => congrArg Host.Outcome.next ?clear, fun hf => ⟨(s.replied tag .ok).stopCleared h,
        congrArg Host.Outcome.next ?cleared, ?released, ?otherClock, ?clearedFrame⟩⟩⟩⟩
  case latched => rw [State.submit_fieldStop hs hh, State.latchStop, State.replied_eq, if_pos hf]
  case clocks =>
    rw [State.latchStop_clocks]
    simp [hf, Clock.stopped]
  case flushed =>
    intro e hhalf howner
    rw [State.latchStop_claims (by simpa using hf), if_pos ((State.sharedIn_iff _ h e).mpr (by simpa using ⟨hhalf, howner⟩))]
    exact ⟨Claim.flushed_holder _, Claim.flushed_waiters _⟩
  case kept =>
    intro e hother
    rw [State.latchStop_claims (by simpa using hf), if_neg fun hshared => hother (by simpa [State.sharedIn_iff] using hshared)]
    simp
  case trunk =>
    rw [State.latchStop_trunk (by simpa using hf), State.stopHeld_trunk]
    rfl
  case frame => apply State.eq_of_blocks <;> simp
  case asserted => rw [State.submit_stopClear hs hh, if_pos ((s.engagedWith_iff .stop h).mpr he)]
  all_goals
    have hfree : ¬ s.engagedWith .stop h = true := fun hc => by
      obtain ⟨n, g, hg, haction, htarget⟩ := (s.engagedWith_iff .stop h).mp hc
      simp [he n g hg haction] at htarget
  case clear => rw [State.submit_stopClear hs hh, if_neg hfree, if_neg (by simp [hf])]
  case cleared => rw [State.submit_stopClear hs hh, if_neg hfree, if_pos hf]
  case released => rw [State.stopCleared_clocks, PerHalf.get_set_self, Clock.settle_released]; rfl
  case otherClock => rw [State.stopCleared_clocks, PerHalf.get_set_ne _ _ (Half.ne_other h)]; rfl
  case clearedFrame => apply State.eq_of_blocks <;> simp [State.stopCleared]

end Sys2Proof.Machine
end

section
/-! PROOFS. Phase boundaries and the end of a match, block by block (R36, R62, R146, R148, R150). -/

namespace Sys2Proof.Machine

/-! ## The answers of a flush (R139, R146, R148) -/

theorem State.tellEach_console (element : Byte) (answer : ClaimAnswer) :
    ∀ (stations : List (Fin 12)) (s : State),
      (stations.foldl (fun t n => t.tell n element answer) s).console =
        stations.foldl (fun lines n => lines.modify n (·.pushReply (.elementReply element answer))) s.console
  | [], _ => rfl
  | n :: rest, s => State.tellEach_console element answer rest (s.tell n element answer)

/-- R146: a flush answers the holder and the waiters of its element; of an element with neither, nobody. -/
theorem State.flush_console (s : State) (reason : ClaimReason) (e : Fin 32) :
    (s.flush reason e).console = flushAnswers reason e (s.claims.get e) s.console := by
  simp only [State.flush, flushAnswers]
  split
  case isTrue hfree => simp [hfree.1, hfree.2]
  case isFalse =>
    rw [State.tellEach_console]
    cases (s.claims.get e).holder <;> rfl

/-- R146: flushes of different elements each answer from the claim as it stood before them all. -/
theorem State.flushEach_console (reason : ClaimReason) (picked : Fin 32 → Bool) :
    ∀ (elements : List (Fin 32)) (s : State), elements.Nodup →
      (elements.foldl (fun t e => if picked e = true then t.flush reason e else t) s).console =
        elements.foldl (fun lines e => if picked e = true then flushAnswers reason e (s.claims.get e) lines else lines) s.console
  | [], _, _ => rfl
  | x :: rest, s, hl => by
    obtain ⟨hx, hrest⟩ := List.nodup_cons.mp hl
    rw [List.foldl_cons, List.foldl_cons, State.flushEach_console reason picked rest _ hrest]
    by_cases hp : picked x = true
    · simp only [if_pos hp, State.flush_console]
      refine List.foldl_ext _ _ _ fun lines e he => ?_
      rw [State.flush_claims, Tab.get_set_ne _ _ (ne_of_mem_of_not_mem he hx).symm]
    · simp only [if_neg hp]

/-! ## Phases entered (R36, R62, R148) -/

theorem State.phaseExcludes_iff (s : State) (h : Half) (p : PhaseEntry) (e : Fin 32) :
    (s.sharedIn h e && (!phaseBit (s.entries.get e).mask p.kind || !((s.active h).profiles.get p.profile).elementAdmit)) = true ↔
      s.PhaseExcludes h p e := by
  simp [State.sharedIn, and_assoc]

/-- R148: what a phase excludes is a matter of the tables, the halves and the element entries. -/
theorem State.phaseExcludes_congr {s t : State} (hsplit : t.split = s.split) (htables : t.tables = s.tables)
    (hentries : t.entries = s.entries) (h : Half) (p : PhaseEntry) (e : Fin 32) :
    t.PhaseExcludes h p e ↔ s.PhaseExcludes h p e := by
  obtain ⟨-, -, hhalf, -, hactive, -⟩ := State.tables_congr hsplit htables
  simp only [State.PhaseExcludes, hhalf, hactive, hentries]

/-- R146: a flush answers the holder and the waiters of a claim, whatever its timer and accumulator. -/
theorem flushAnswers_congr {c d : Claim} (hholder : d.holder = c.holder) (hwaiters : d.waiters = c.waiters) (reason : ClaimReason)
    (e : Fin 32) : flushAnswers reason e d = flushAnswers reason e c := by
  funext console
  simp only [flushAnswers, hholder, hwaiters]

/-- R146, R148: what a boundary answers is a matter of what the phase excludes and of who holds and waits. -/
theorem State.phaseAnswers_congr {s t : State} (hsplit : t.split = s.split) (htables : t.tables = s.tables)
    (hentries : t.entries = s.entries)
    (hclaims : ∀ e, (t.claims.get e).holder = (s.claims.get e).holder ∧ (t.claims.get e).waiters = (s.claims.get e).waiters)
    (hconsole : t.console = s.console) (h : Half) (p : PhaseEntry) : t.phaseAnswers h p = s.phaseAnswers h p := by
  rw [State.phaseAnswers, hconsole, State.phaseAnswers]
  refine List.foldl_ext _ _ _ fun lines e _ => ite_congr (propext (State.phaseExcludes_congr hsplit htables hentries h p e))
    (fun _ => ?_) fun _ => rfl
  rw [flushAnswers_congr (hclaims e).1 (hclaims e).2]

/-- R36: the phase of an entry, reported, before its boundary is announced to the claim unit. -/
def State.phaseEntered (s : State) (h : Half) (j : Fin 8) : State :=
  ((s.setClock h fun c => { c with phase := j, remaining := ((s.active h).schedule.get j).duration }).report
    (.phase h j ((s.active h).schedule.get j).kind)).zeroHalf h

theorem State.enterPhase_eq (s : State) (h : Half) (j : Fin 8) :
    s.enterPhase h j = (s.phaseEntered h j).flushPhase h ((s.active h).schedule.get j).kind
      ((s.active h).profiles.get ((s.active h).schedule.get j).profile) := rfl

theorem State.enterPhase_trunk (s : State) (h : Half) (j : Fin 8) :
    (s.enterPhase h j).trunk = (s.report (.phase h j ((s.active h).schedule.get j).kind)).trunk := by
  simp only [State.enterPhase_eq, State.flushPhase_keeps, State.phaseEntered, State.zeroHalf_keeps]
  exact State.report_trunk_congr rfl _

theorem State.zeroHalf_slots (s : State) (h : Half) (i : Fin 24) :
    (s.zeroHalf h).slots.get i =
      if s.slotHalf i = h then { s.slots.get i with targets := .fill 0, buttons := 0 } else s.slots.get i := by
  simp [State.zeroHalf, SlotAdmission.zeroTargets]

theorem State.enterPhase_slots (s : State) (h : Half) (j : Fin 8) (i : Fin 24) :
    (s.enterPhase h j).slots.get i =
      if s.slotHalf i = h then { s.slots.get i with targets := .fill 0, buttons := 0 } else s.slots.get i := by
  simp [State.enterPhase_eq, State.phaseEntered, State.zeroHalf_slots]

/-- R148: a phase flushes the shared elements of its half that it excludes. -/
theorem State.enterPhase_claims (s : State) (h : Half) (j : Fin 8) (e : Fin 32) :
    (s.enterPhase h j).claims.get e =
      if s.PhaseExcludes h ((s.active h).schedule.get j) e then (s.claims.get e).flushed else s.claims.get e := by
  rw [State.enterPhase_eq, State.flushPhase_claims]
  refine ite_congr (propext ?_) (fun _ => by simp [State.phaseEntered]) fun _ => by simp [State.phaseEntered]
  rw [← State.phaseExcludes_iff]
  simp [State.phaseEntered, State.sharedIn]

/-- R148: at a phase boundary the claims that the phase excludes lose holder and waiters, and every other claim stays. -/
theorem State.enterPhase_flushes (s : State) (h : Half) (j : Fin 8) (e : Fin 32) :
    (s.PhaseExcludes h ((s.active h).schedule.get j) e →
      ((s.enterPhase h j).claims.get e).holder = none ∧ ((s.enterPhase h j).claims.get e).waiters = []) ∧
    (¬ s.PhaseExcludes h ((s.active h).schedule.get j) e → (s.enterPhase h j).claims.get e = s.claims.get e) := by
  rw [State.enterPhase_claims]
  refine ⟨fun hx => ?_, fun hx => if_neg hx⟩
  rw [if_pos hx]
  exact ⟨Claim.flushed_holder _, Claim.flushed_waiters _⟩

/-- R146, R148: the answers of a phase boundary. -/
theorem State.enterPhase_console (s : State) (h : Half) (j : Fin 8) :
    (s.enterPhase h j).console = s.phaseAnswers h ((s.active h).schedule.get j) := by
  rw [State.enterPhase_eq, State.flushPhase, State.flushEach_console .phase _ _ _ nodup_allElements]
  simp only [State.phaseAnswers, allElements]
  have hkept : (s.phaseEntered h j).claims = s.claims ∧ (s.phaseEntered h j).console = s.console ∧
      (s.phaseEntered h j).entries = s.entries ∧ (s.phaseEntered h j).elementHalf = s.elementHalf := by simp [State.phaseEntered]
  obtain ⟨hclaims, hconsole, hentries, hhalf⟩ := hkept
  rw [hconsole]
  refine List.foldl_ext _ _ _ fun lines e _ => ite_congr (propext ?_) (fun _ => by rw [hclaims]) fun _ => rfl
  rw [← State.phaseExcludes_iff, State.sharedIn, hhalf, hentries]
  rfl

/-! ## Matches ended (R36, R150) -/

theorem State.matchEnded_trunk (s : State) (h : Half) :
    (s.matchEnded h).trunk = (s.report (.clockState h .ended false (s.lineHold h) false (s.clocks.get h).phase)).trunk := by
  have hclock := congrArg (·.get h) (s.matchEnded_clocks h)
  simp only [State.matchEnded, State.flushSilent_keeps, State.zeroHalf_keeps, State.reportClock_keeps,
    PerHalf.get_set_self] at hclock
  simp only [State.matchEnded, State.flushSilent_keeps, State.zeroHalf_keeps]
  exact State.reportClock_trunk hclock rfl

theorem State.matchEnded_slots (s : State) (h : Half) (i : Fin 24) :
    (s.matchEnded h).slots.get i =
      if s.slotHalf i = h then { s.slots.get i with targets := .fill 0, buttons := 0 } else s.slots.get i := by
  simp [State.matchEnded, State.zeroHalf_slots]

theorem State.matchEnded_claims (s : State) (h : Half) (e : Fin 32) :
    (s.matchEnded h).claims.get e = if s.elementHalf e = h then Claim.empty else s.claims.get e := by
  simp [State.matchEnded]

/-- R36: with no automatic turnover waiting, a match ends in ENDED. -/
theorem State.endMatch_of_quiet {s : State} {h : Half} (hq : s.turnsOver h = false) : s.endMatch h = s.matchEnded h := by
  rw [State.endMatch_eq, if_neg (by simp [hq])]

end Sys2Proof.Machine
end

section
/-! PROOFS. START, ADVANCE and ABORT (R28, R31, R32). -/

namespace Sys2Proof.Machine

/-! ## START (R28, R52) -/

theorem State.zeroed_slots (s : State) (h : Half) (i : Fin 24) :
    (s.zeroed h).slots.get i = if s.slotHalf i = h then
      { s.slots.get i with override := if (s.slots.get i).override = .forceEnable then .auto else (s.slots.get i).override }
      else s.slots.get i := by
  by_cases hi : s.slotHalf i = h <;> by_cases ho : (s.slots.get i).override = .forceEnable <;>
    simp [State.zeroed, State.endTests, hi, ho]

/-- R28, R52: a START before its phase touches its clock and its slots. -/
theorem State.zeroed_eq (s : State) (h : Half) :
    s.zeroed h = { s with clocks := (s.zeroed h).clocks, slots := (s.zeroed h).slots } := by
  apply State.eq_of_blocks <;> simp [State.zeroed]

theorem State.zeroed_active (s : State) (h : Half) : (s.zeroed h).active = s.active := by simp [State.zeroed]

/-- R28: a START with a first phase reports the phase and then its clock. -/
theorem State.startMatch_trunk {s : State} {h : Half} {j : Fin 8} (hj : NextPhase (s.active h).schedule 0 j) :
    (s.startMatch h).trunk =
      ((s.report (.phase h j ((s.active h).schedule.get j).kind)).report
        (.clockState h (if (s.clocks.get h).lineHold then .paused else .running) (s.clocks.get h).commandHold
          (s.clocks.get h).lineHold (s.clocks.get h).stopHold j)).trunk := by
  have hphase : ((s.zeroed h).enterPhase h j).trunk = (s.report (.phase h j ((s.active h).schedule.get j).kind)).trunk := by
    rw [State.enterPhase_trunk, State.zeroed_active]
    exact State.report_trunk_congr (by simp [State.zeroed]) _
  have hclock := congrArg (·.get h) (State.startMatch_clocks hj)
  simp only [State.startMatch_of_first hj, State.reportClock_keeps, PerHalf.get_set_self] at hclock
  rw [State.startMatch_of_first hj]
  exact State.reportClock_trunk hclock hphase

theorem State.startMatch_slots {s : State} {h : Half} {j : Fin 8} (hj : NextPhase (s.active h).schedule 0 j) (i : Fin 24) :
    (s.startMatch h).slots.get i = if s.slotHalf i = h then
      { s.slots.get i with
        targets := .fill 0, buttons := 0
        override := if (s.slots.get i).override = .forceEnable then .auto else (s.slots.get i).override }
      else s.slots.get i := by
  have hhalf : (s.zeroed h).slotHalf = s.slotHalf := by simp [State.zeroed]
  rw [State.startMatch_of_first hj]
  simp only [State.reportClock_keeps, State.setClock_slots, State.enterPhase_slots, State.zeroed_slots, hhalf]
  split <;> rfl

/-- Settles O23: START of the replied state enters its first phase, or ends the empty match. -/
theorem startEntersTheFirstPhase : Obligations.StartEntersTheFirstPhase := by
  have hexec : ∀ (s : State) (tag : Byte) (h : Half), s.Ready → (h = .a ∨ s.split = true) → (s.clocks.get h).state = .armed →
      (s.clocks.get h).fieldStop = false → exec (.start tag (codeHalf h)) s = .next ((s.replied tag .ok).startMatch h) :=
    fun s tag h hs hh hc hf => congrArg Host.Outcome.next (by rw [State.submit_start hs hh, if_pos hc, if_neg (by simp [hf])])
  refine ⟨fun s tag h j hs hh hc hf hj => ⟨_, hexec s tag h hs hh hc hf, ?clocks, ?trunk, ?slots, ?frame⟩,
    fun s tag h hs hh hc hf hn hq => ⟨((s.replied tag .ok).zeroed h).matchEnded h, ?ended, ?endedClocks, ?endedTrunk, ?endedFrame⟩⟩
  case clocks => exact State.startMatch_clocks (s := s.replied tag .ok) hj
  case trunk => exact State.startMatch_trunk (s := s.replied tag .ok) hj
  case slots => exact State.startMatch_slots (s := s.replied tag .ok) hj
  case frame =>
    rw [State.startMatch_of_first (s := s.replied tag .ok) hj]
    apply State.eq_of_blocks <;> simp [State.zeroed]
  case ended =>
    rw [hexec s tag h hs hh hc hf, State.startMatch_of_empty (s := s.replied tag .ok) hn, State.endMatch_of_quiet]
    rw [← hq]
    exact State.turnsOver_congr (by simp [State.zeroed]) h
  case endedClocks =>
    rw [State.matchEnded_clocks, State.zeroed_clocks]
    simp [PerHalf.set_set, State.zeroed]
  case endedTrunk =>
    have hzeroed := (s.replied tag .ok).zeroed_eq h
    rw [State.matchEnded_trunk, State.zeroed_clocks, PerHalf.get_set_self, hzeroed]
    exact State.report_trunk_congr rfl _
  case endedFrame => apply State.eq_of_blocks <;> simp [State.matchEnded, State.zeroed]

/-! ## ADVANCE and ABORT (R31, R32) -/

/-- R31: the state in which a taken ADVANCE ends the phase in force. -/
def State.onward (s : State) (tag : Byte) (h : Half) : State := (s.replied tag .ok).setClock h fun c => { c with tenthPos := 0 }

theorem exec_advance {s : State} {h : Half} (hs : s.Ready) (hh : h = .a ∨ s.split = true)
    (hc : (s.clocks.get h).state.started = true) (tag : Byte) :
    exec (.advance tag (codeHalf h)) s = .next ((s.onward tag h).endPhase h) :=
  congrArg Host.Outcome.next (by rw [State.submit_advance hs hh, if_pos hc]; rfl)

theorem exec_abort {s : State} {h : Half} (hs : s.Ready) (hh : h = .a ∨ s.split = true)
    (hc : (s.clocks.get h).state.started = true) (tag : Byte) :
    exec (.abort tag (codeHalf h)) s = .next ((s.replied tag .ok).endMatch h) :=
  congrArg Host.Outcome.next (by rw [State.submit_abort hs hh, if_pos hc])

theorem State.onward_clocks (s : State) (tag : Byte) (h : Half) :
    (s.onward tag h).clocks = s.clocks.set h { s.clocks.get h with tenthPos := 0 } := rfl

theorem State.onward_phase (s : State) (tag : Byte) (h : Half) :
    ((s.onward tag h).clocks.get h).phase = (s.clocks.get h).phase := by
  rw [State.onward_clocks, PerHalf.get_set_self]

/-- Settles O25: ADVANCE ends the phase in force of the replied state, and ABORT its match. -/
theorem advanceAndAbortLeaveThePhase : Obligations.AdvanceAndAbortLeaveThePhase := by
  refine ⟨fun s tag h j hs hh hc hj => ⟨(s.onward tag h).enterPhase h j, ?next, ?clocks, ?trunk,
      (s.onward tag h).enterPhase_flushes h j, (s.onward tag h).enterPhase_console h j, (s.onward tag h).enterPhase_slots h j,
      ?frame⟩,
    fun s tag h hs hh hc hn hq => ⟨(s.onward tag h).matchEnded h, ?last, ?lastClocks⟩,
    fun s tag h hs hh hc => ⟨fun hq => ⟨(s.replied tag .ok).matchEnded h, ?quiet, (s.replied tag .ok).matchEnded_clocks h,
      (s.replied tag .ok).matchEnded_trunk h, (s.replied tag .ok).matchEnded_slots h, (s.replied tag .ok).matchEnded_claims h,
      ?endedFrame⟩,
      fun hq => ⟨((s.replied tag .ok).matchEnded h).turnover h, ?turns, ?armed, ?header⟩⟩⟩
  case next =>
    rw [exec_advance hs hh hc, State.endPhase_of_next]
    rw [State.onward_phase]
    exact hj
  case clocks =>
    rw [State.enterPhase_clocks, State.onward_clocks, PerHalf.set_set, PerHalf.get_set_self]
    rfl
  case trunk => exact ((s.onward tag h).enterPhase_trunk h j).trans (State.report_trunk_congr rfl _)
  case frame => apply State.eq_of_blocks <;> simp [State.onward]
  case last =>
    rw [exec_advance hs hh hc, State.endPhase_of_last, State.endMatch_of_quiet]
    · exact hq
    · rw [State.onward_phase]
      exact hn
  case lastClocks =>
    rw [State.matchEnded_clocks, State.onward_clocks, PerHalf.set_set, PerHalf.get_set_self]
    rfl
  case quiet => rw [exec_abort hs hh hc, State.endMatch_of_quiet (s := s.replied tag .ok) hq]
  case endedFrame => apply State.eq_of_blocks <;> simp [State.matchEnded]
  case turns => rw [exec_abort hs hh hc, State.endMatch_eq, if_pos (c := (s.replied tag .ok).turnsOver h = true) hq]
  case armed => rw [State.turnover_clocks, PerHalf.get_set_self]
  case header =>
    obtain ⟨htables, -⟩ := ((s.replied tag .ok).matchEnded h).turnover_installed h
    rw [State.active, htables, ← State.active, State.installed_active, State.newActive_header]
    simp [State.matchEnded]

end Sys2Proof.Machine
end

section
/-! PROOFS. SPLIT_SET (R38). -/

namespace Sys2Proof.Machine

/-! ## The stop latches carried (R38, R43) -/

/-- R43: a line engaged with STOP on a target that includes the half. -/
def State.lineStops (s : State) (h : Half) (n : Fin 4) : Bool :=
  match (s.lines.get n).engaged with
  | some g => decide (g.action = .stop) && s.targets g.target h
  | none => false

theorem State.lineStops_any (s : State) (h : Half) : (List.finRange 4).any (s.lineStops h) = s.engagedWith .stop h := rfl

/-- R38: an engaged STOP line latches the half of a clock that is not started, and no hold cause changes. -/
theorem State.latchFrom_clocks {s : State} {h : Half} (hc : (s.clocks.get h).state.started = false) (n : Fin 4) :
    (s.latchFrom h n).clocks = s.clocks.set h
      { s.clocks.get h with fieldStop := (s.clocks.get h).fieldStop || s.lineStops h n } := by
  have hself : s.clocks = s.clocks.set h (s.clocks.get h) := (PerHalf.set_get _ _).symm
  have hstop : (s.latchFrom h n).clocks = if s.lineStops h n then (s.latchStop h (.line n)).clocks else s.clocks := by
    cases hg : (s.lines.get n).engaged with
    | none => simp [State.latchFrom, State.lineStops, hg]
    | some g =>
      simp only [State.latchFrom, State.lineStops, hg, Bool.and_eq_true, decide_eq_true_eq]
      exact apply_ite State.clocks _ _ _
  rw [hstop]
  cases hl : s.lineStops h n with
  | false =>
    rw [if_neg Bool.false_ne_true, Bool.or_false]
    exact hself
  | true =>
    rw [if_pos rfl, State.latchStop_clocks, Clock.stopped_of_rest hc, Bool.or_true]
    cases hf : (s.clocks.get h).fieldStop with
    | false => rfl
    | true => rw [if_pos rfl, ← hf]; exact hself

theorem State.latchEach_clocks {h : Half} :
    ∀ (lines : List (Fin 4)) (s : State), (s.clocks.get h).state.started = false →
      (lines.foldl (fun t n => t.latchFrom h n) s).clocks = s.clocks.set h
        { s.clocks.get h with fieldStop := (s.clocks.get h).fieldStop || lines.any (s.lineStops h) }
  | [], s, _ => by
    rw [List.any_nil, Bool.or_false]
    exact (PerHalf.set_get _ _).symm
  | n :: rest, s, hc => by
    have hclocks := State.latchFrom_clocks hc n
    have hlines : (s.latchFrom h n).lineStops = s.lineStops := by funext g m; simp [State.lineStops]
    rw [List.foldl_cons, State.latchEach_clocks rest _ (by rw [hclocks, PerHalf.get_set_self]; exact hc), hlines, hclocks,
      PerHalf.get_set_self, PerHalf.set_set, List.any_cons, Bool.or_assoc]

/-! ## SPLIT_SET (R38) -/

/-- R38: what the carrying of the stops leaves as it was. -/
theorem State.splitCarried_keeps (s : State) (value : Bool) :
    (s.splitCarried value).split = value ∧ (s.splitCarried value).tables = (s.splitEmptied value).tables := by
  unfold State.splitCarried
  split
  · exact ⟨(foldl_keeps State.split _ (fun t n => by simp) _ _).trans (by simp [State.splitEmptied]),
      (foldl_keeps State.tables _ (fun t n => by simp) _ _).trans (by simp)⟩
  · simp [State.splitEmptied]
  · simp [State.splitEmptied]

/-- R38: split mode turned on gives half B the latch of A, and latches it for every engaged STOP line that includes it. -/
theorem State.splitCarried_on {s : State} (hs : s.split = false) (hb : s.clocks.b.state = .idle) :
    (s.splitCarried true).clocks = s.clocks.set .b { s.clocks.b with
      fieldStop := s.clocks.a.fieldStop || (s.splitEmptied true).engagedWith .stop .b } := by
  have hstart := (s.splitEmptied true).carryStop_clocks .b s.clocks.a.fieldStop
  have hlines : ((s.splitEmptied true).carryStop .b s.clocks.a.fieldStop).lineStops = (s.splitEmptied true).lineStops := by
    funext g m; simp [State.lineStops]
  have hcarried : s.splitCarried true = (List.finRange 4).foldl (fun t n => t.latchFrom .b n)
      ((s.splitEmptied true).carryStop .b s.clocks.a.fieldStop) := by simp only [State.splitCarried, hs]
  rw [hcarried, State.latchEach_clocks, hstart, PerHalf.get_set_self, PerHalf.set_set, hlines, State.lineStops_any]
  · rfl
  · rw [hstart, PerHalf.get_set_self]
    simp [State.splitEmptied, PerHalf.get, hb, ClockState.started]

/-- R38: split mode turned off gives half A either latch, and clears that of B. -/
theorem State.splitCarried_off {s : State} (hs : s.split = true) :
    (s.splitCarried false).clocks =
      ⟨{ s.clocks.a with fieldStop := s.clocks.a.fieldStop || s.clocks.b.fieldStop }, { s.clocks.b with fieldStop := false }⟩ := by
  simp only [State.splitCarried, hs, State.carryStop_clocks]
  rfl

theorem State.splitCarried_same {s : State} {value : Bool} (hs : s.split = value) : (s.splitCarried value).clocks = s.clocks := by
  subst hs
  cases hs : s.split <;> simp [State.splitCarried, hs, State.splitEmptied]

/-- R38: SPLIT_SET leaves clocks at rest IDLE. -/
theorem State.splitCarried_idle {s : State} (ha : s.clocks.a.state = .idle) (hb : s.clocks.b.state = .idle) (value : Bool)
    (h : Half) : ((s.splitCarried value).clocks.get h).state = .idle := by
  by_cases hsame : s.split = value
  · rw [State.splitCarried_same hsame]
    cases h
    · exact ha
    · exact hb
  · cases value with
    | true =>
      rw [State.splitCarried_on (by simpa using hsame) hb]
      cases h
      · exact ha
      · exact hb
    | false =>
      rw [State.splitCarried_off (by simpa using hsame)]
      cases h
      · exact ha
      · exact hb

/-- R40: in split mode the targets B and BOTH include half B. -/
theorem State.targets_b {s : State} (hs : s.split = true) (target : LineTarget) :
    s.targets target .b = true ↔ target = .b ∨ target = .both := by
  cases target <;> simp [State.targets, hs]

/-- R38: what SPLIT_SET answers with both clocks IDLE. -/
theorem State.submit_splitSet {s : State} (hs : s.Ready) (ha : s.clocks.a.state = .idle) (hb : s.clocks.b.state = .idle)
    (tag : Byte) (v : Bool) : s.submit tag (.command (.splitSet (codeYN v))) = (s.replied tag .ok).setSplit v := by
  rw [State.submit_command hs]
  simp [State.serveCommand, splitSetVerdict, ha, hb]

/-- Settles O28: the replied state carries its stops, and the line holds are derived after. -/
theorem splitSetCarriesTheStops : Obligations.SplitSetCarriesTheStops := by
  intro s tag v hs ha hb
  let t := (s.replied tag .ok).splitCarried v
  have hidle : ∀ h, (t.clocks.get h).state = .idle := State.splitCarried_idle (s := s.replied tag .ok) ha hb v
  obtain ⟨hsplit, htables⟩ : t.split = v ∧ t.tables = (s.splitEmptied v).tables := (s.replied tag .ok).splitCarried_keeps v
  have hstop : ∀ h, (t.deriveHolds.clocks.get h).fieldStop = (t.clocks.get h).fieldStop := fun h => by
    rw [State.deriveHolds_clocks]; rfl
  refine ⟨t.deriveHolds, congrArg Host.Outcome.next (State.submit_splitSet hs ha hb tag v), ?split, fun h => ?kept,
    fun hv => ?same, fun hoff hv => ?on, fun hon hv => ?off⟩
  case split => simp [hsplit]
  case kept =>
    have hpending : ((s.splitEmptied v).tables.get h).pending = Bank.empty ∧ ((s.splitEmptied v).tables.get h).valid = Valid.clear
        ∧ ((s.splitEmptied v).tables.get h).active = (s.tables.get h).active := by cases h <;> exact ⟨rfl, rfl, rfl⟩
    obtain ⟨hbank, hvalid, hactive⟩ := hpending
    rw [State.deriveHolds_clocks, (State.deriveHolds_keeps t).1, htables]
    refine ⟨hbank, hvalid, hactive, Clock.settle_idle (hidle h), ?_⟩
    simp [Clock.settle]
  case same =>
    have hclocks : t.clocks = s.clocks := State.splitCarried_same (s := s.replied tag .ok) hv
    exact ⟨(hstop .a).trans (by rw [hclocks]; rfl), (hstop .b).trans (by rw [hclocks]; rfl)⟩
  case on =>
    subst hv
    have hclocks := State.splitCarried_on (s := s.replied tag .ok) hoff hb
    have hlatch : (t.deriveHolds.clocks.get .b).fieldStop =
        (s.clocks.a.fieldStop || (s.splitEmptied true).engagedWith .stop .b) := (hstop .b).trans (by rw [hclocks]; rfl)
    refine ⟨(hstop .a).trans (by rw [hclocks]; rfl), ?_⟩
    change (t.deriveHolds.clocks.get .b).fieldStop = true ↔ _
    rw [hlatch, Bool.or_eq_true, State.engagedWith_iff]
    simp only [State.targets_b (s := s.splitEmptied true) rfl]
    rfl
  case off =>
    subst hv
    have hclocks := State.splitCarried_off (s := s.replied tag .ok) hon
    exact ⟨(hstop .a).trans (by rw [hclocks]; rfl), (hstop .b).trans (by rw [hclocks]; rfl)⟩

end Sys2Proof.Machine
end

section
/-! PROOFS. Edges of the arena lines (R40 to R44). -/

namespace Sys2Proof.Machine

/-! ## Something done for each half of a target (R41, R43) -/

theorem State.eachHalf_inv {P : State → Prop} {f : State → Half → State} (hf : ∀ t h, P t → P (f t h)) {s : State} (hs : P s)
    (target : LineTarget) : P (s.eachHalf target f) := by
  have hfirst : P (if s.targets target .a then f s .a else s) := by
    split
    · exact hf s .a hs
    · exact hs
  rw [State.eachHalf]
  split
  · exact hf _ .b hfirst
  · exact hfirst

/-- What is done for a half of the target is done in a state with that half's clock and tables, when what is done for the other
half leaves them. -/
theorem State.eachHalf_clock {f : State → Half → State} {s : State} {target : LineTarget} {h : Half}
    (hother : ∀ t k, k ≠ h → (f t k).clocks.get h = t.clocks.get h ∧ (f t k).tables.get h = t.tables.get h)
    (hh : s.targets target h = true) :
    ∃ t : State, t.clocks.get h = s.clocks.get h ∧ t.tables.get h = s.tables.get h ∧
      (s.eachHalf target f).clocks.get h = (f t h).clocks.get h := by
  cases h with
  | a =>
    refine ⟨s, rfl, rfl, ?_⟩
    rw [State.eachHalf, if_pos hh]
    split
    · exact (hother _ .b (by simp)).1
    · rfl
  | b =>
    refine ⟨if s.targets target .a then f s .a else s, ?_, ?_, ?_⟩
    · split
      · exact (hother s .a (by simp)).1
      · rfl
    · split
      · exact (hother s .a (by simp)).2
      · rfl
    · rw [State.eachHalf, if_pos hh]

/-! ## What one half's events leave of the other (R39) -/

theorem State.turnover_other (s : State) {h k : Half} (hk : h ≠ k) :
    (s.turnover h).clocks.get k = s.clocks.get k ∧ (s.turnover h).tables.get k = s.tables.get k := by
  obtain ⟨htables, -⟩ := s.turnover_installed h
  rw [State.turnover_clocks, htables, State.installed_tables, PerHalf.modify_eq, PerHalf.get_set_ne _ _ hk,
    PerHalf.get_set_ne _ _ hk]
  exact ⟨rfl, rfl⟩

theorem State.matchEnded_other (s : State) {h k : Half} (hk : h ≠ k) :
    (s.matchEnded h).clocks.get k = s.clocks.get k ∧ (s.matchEnded h).tables.get k = s.tables.get k := by
  rw [State.matchEnded_clocks, PerHalf.get_set_ne _ _ hk]
  simp [State.matchEnded]

theorem State.endMatch_other (s : State) {h k : Half} (hk : h ≠ k) :
    (s.endMatch h).clocks.get k = s.clocks.get k ∧ (s.endMatch h).tables.get k = s.tables.get k := by
  obtain ⟨hclock, htables⟩ := s.matchEnded_other hk
  rw [State.endMatch_eq]
  split
  · rw [← hclock, ← htables]
    exact (s.matchEnded h).turnover_other hk
  · exact ⟨hclock, htables⟩

theorem State.startMatch_other (s : State) {h k : Half} (hk : h ≠ k) :
    (s.startMatch h).clocks.get k = s.clocks.get k ∧ (s.startMatch h).tables.get k = s.tables.get k := by
  obtain ⟨j, hj⟩ | he := s.startMatch_eq h
  · rw [State.startMatch_clocks hj, PerHalf.get_set_ne _ _ hk, State.startMatch_of_first hj]
    simp [State.zeroed]
  · have hzeroed : (s.zeroed h).clocks.get k = s.clocks.get k ∧ (s.zeroed h).tables = s.tables := by
      rw [State.zeroed_clocks, PerHalf.get_set_ne _ _ hk]
      simp [State.zeroed]
    obtain ⟨hclock, htables⟩ := (s.zeroed h).endMatch_other hk
    rw [he, hclock, htables, hzeroed.1, hzeroed.2]
    exact ⟨rfl, rfl⟩

theorem State.startEdge_other (s : State) (n : Fin 4) {h k : Half} (hk : h ≠ k) :
    (s.startEdge n h).clocks.get k = s.clocks.get k ∧ (s.startEdge n h).tables.get k = s.tables.get k := by
  rw [State.startEdge]
  split
  · exact s.startMatch_other hk
  · exact ⟨rfl, rfl⟩

theorem State.latchStop_other (s : State) (source : StopSource) {h k : Half} (hk : h ≠ k) :
    (s.latchStop h source).clocks.get k = s.clocks.get k ∧ (s.latchStop h source).tables.get k = s.tables.get k := by
  rw [State.latchStop_clocks]
  refine ⟨?_, by simp⟩
  split
  · rfl
  · exact PerHalf.get_set_ne _ _ hk

theorem State.latchStop_latches (s : State) (h : Half) (source : StopSource) :
    ((s.latchStop h source).clocks.get h).fieldStop = true := by
  rw [State.latchStop_clocks]
  split
  case isTrue hf => exact hf
  case isFalse =>
    rw [PerHalf.get_set_self, Clock.stopped]
    split <;> rfl

/-! ## Engagements (R40, R42) -/

/-- R40: a line as its rising edge finds it, asserted and engaged as it is configured. -/
def ArenaLine.raised (x : ArenaLine) : ArenaLine := { x with level := true, engaged := some ⟨x.action, x.target⟩ }

/-- R40, R42: the state after a line is engaged and the line holds follow. -/
def State.lineRaised (s : State) (n : Fin 4) : State := (s.setLine n ArenaLine.raised).deriveHolds

theorem State.lineRaised_lines (s : State) (n : Fin 4) : (s.lineRaised n).lines = s.lines.set n (s.lines.get n).raised := by
  simp [State.lineRaised, Tab.modify]

theorem State.lineRaised_clocks (s : State) (n : Fin 4) (h : Half) :
    (s.lineRaised n).clocks.get h =
      ({ s.clocks.get h with lineHold := (s.setLine n ArenaLine.raised).lineHold h } : Clock).settle := by
  simp [State.lineRaised]

theorem State.lineRaised_lineHold (s : State) (n : Fin 4) (h : Half) :
    (s.lineRaised n).lineHold h = (s.setLine n ArenaLine.raised).lineHold h := by simp [State.lineRaised]

/-- R40 to R43: what a rising edge does by the line's action. -/
theorem arenaLineRisingEdge_eq {s : State} {n : Fin 4} (hl : (s.lines.get n).level = false) :
    arenaLineRisingEdge n s =
      match (s.lines.get n).action with
      | .start => (s.lineRaised n).eachHalf (s.lines.get n).target fun t h => t.startEdge n h
      | .stop => (s.lineRaised n).eachHalf (s.lines.get n).target fun t h => t.latchStop h (.line n)
      | .hold => s.lineRaised n
      | .none => s.lineRaised n := by
  rw [arenaLineRisingEdge, if_neg (by simp [hl])]
  rfl

/-- R42: what lines hold and stop is a matter of split mode and of their engagements. -/
theorem State.engagedWith_congr {s t : State} (hsplit : t.split = s.split)
    (hlines : ∀ m, (t.lines.get m).engaged = (s.lines.get m).engaged) : t.engagedWith = s.engagedWith := by
  obtain ⟨-, -, -, htargets⟩ := State.halves_congr hsplit
  funext action h
  simp only [State.engagedWith, hlines, htargets]

/-- A state whose lines stand as in another, but for the ignored starts of one. -/
def State.LinesAs (s : State) (n : Fin 4) (t : State) : Prop :=
  t.split = s.split ∧ ∃ count, t.lines = s.lines.set n { s.lines.get n with ignoredStarts := count }

theorem State.LinesAs.of_eq {s t : State} (n : Fin 4) (hsplit : t.split = s.split) (hlines : t.lines = s.lines) : s.LinesAs n t :=
  ⟨hsplit, (s.lines.get n).ignoredStarts, hlines.trans (Tab.set_get _ n).symm⟩

theorem State.LinesAs.lineHold {s t : State} {n : Fin 4} (h : s.LinesAs n t) : t.lineHold = s.lineHold := by
  obtain ⟨hsplit, count, hlines⟩ := h
  have hengaged : ∀ m, (t.lines.get m).engaged = (s.lines.get m).engaged := fun m => by
    rw [hlines, Tab.get_set]
    split <;> simp_all
  funext g
  rw [State.lineHold, State.engagedWith_congr hsplit hengaged, State.lineHold]

/-- R41: a START edge changes no more of the lines than the ignored starts of its own. -/
theorem State.LinesAs.startEdge {s t : State} {n : Fin 4} (hs : s.LinesAs n t) (h : Half) : s.LinesAs n (t.startEdge n h) := by
  obtain ⟨hsplit, count, hlines⟩ := hs
  refine ⟨by simpa using hsplit, ?_⟩
  rw [State.startEdge]
  split
  · exact ⟨count, by simpa using hlines⟩
  · refine ⟨bump count, ?_⟩
    rw [State.setLine_lines, hlines, Tab.modify, Tab.get_set_self, Tab.set_set]

/-- R40 to R43: after its rising edge, a line has changed no more than its ignored starts. -/
theorem arenaLineRisingEdge_lines {s : State} {n : Fin 4} (hl : (s.lines.get n).level = false) :
    (s.lineRaised n).LinesAs n (arenaLineRisingEdge n s) := by
  rw [arenaLineRisingEdge_eq hl]
  split
  · exact State.eachHalf_inv (P := (s.lineRaised n).LinesAs n) (fun t h ht => ht.startEdge h) (.of_eq n rfl rfl) _
  · refine State.eachHalf_inv (P := (s.lineRaised n).LinesAs n) (fun t h ht => ?_) (.of_eq n rfl rfl) _
    exact ⟨by simpa using ht.1, by simpa using ht.2⟩
  · exact .of_eq n rfl rfl
  · exact .of_eq n rfl rfl

/-! ## The edges (R40 to R44) -/

/-- R42: a HOLD line holds every clock of its target. -/
theorem State.lineRaised_holds {s : State} {n : Fin 4} {h : Half} (ha : (s.lines.get n).action = .hold)
    (hh : s.targets (s.lines.get n).target h = true) : (s.setLine n ArenaLine.raised).lineHold h = true := by
  refine (State.engagedWith_iff _ .hold h).mpr ⟨n, ⟨(s.lines.get n).action, (s.lines.get n).target⟩, ?_, ha, ?_⟩
  · simp [ArenaLine.raised]
  · simpa using hh

/-- R26: a started clock settles PAUSED under its line hold. -/
theorem Clock.settle_lineHold {c : Clock} (hc : c.state.started = true) :
    ({ c with lineHold := true } : Clock).settle.state = .paused := by
  simp [Clock.settle, hc]

/-- R43: a STOP line latches every half of its target. -/
theorem arenaLineRisingEdge_stops {s : State} {n : Fin 4} {h : Half} (hl : (s.lines.get n).level = false)
    (ha : (s.lines.get n).action = .stop) (hh : s.targets (s.lines.get n).target h = true) :
    ((arenaLineRisingEdge n s).clocks.get h).fieldStop = true := by
  obtain ⟨t, -, -, ht⟩ := State.eachHalf_clock (s := s.lineRaised n) (f := fun t h => t.latchStop h (.line n))
    (fun t k hk => t.latchStop_other (.line n) hk) (h := h) (target := (s.lines.get n).target)
    (by simpa [State.lineRaised] using hh)
  rw [arenaLineRisingEdge_eq hl, ha]
  dsimp only
  rw [ht]
  exact t.latchStop_latches h _

/-- R41: a START line starts every ARMED clock of its target whose half is not stopped. -/
theorem arenaLineRisingEdge_starts {s : State} {n : Fin 4} {h : Half} {j : Fin 8} (hl : (s.lines.get n).level = false)
    (ha : (s.lines.get n).action = .start) (hh : s.targets (s.lines.get n).target h = true)
    (hc : (s.clocks.get h).state = .armed) (hf : (s.clocks.get h).fieldStop = false) (hj : NextPhase (s.active h).schedule 0 j) :
    ((arenaLineRisingEdge n s).clocks.get h).state = (if (s.lineRaised n).lineHold h then .paused else .running) ∧
      ((arenaLineRisingEdge n s).clocks.get h).phase = j := by
  obtain ⟨t, hclock, htables, ht⟩ := State.eachHalf_clock (s := s.lineRaised n) (f := fun t h => t.startEdge n h)
    (fun t k hk => t.startEdge_other n hk) (h := h) (target := (s.lines.get n).target)
    (by simpa [State.lineRaised] using hh)
  have harmed : t.clocks.get h = { s.clocks.get h with lineHold := (s.lineRaised n).lineHold h } := by
    rw [hclock, State.lineRaised_clocks, State.lineRaised_lineHold]
    simp [Clock.settle, hc, ClockState.started]
  have hactive : t.active h = s.active h := by
    rw [State.active, htables]
    simp [State.lineRaised, State.active]
  have hnext : NextPhase (t.active h).schedule 0 j := hactive ▸ hj
  have hstart : t.startEdge n h = t.startMatch h := if_pos (by rw [harmed]; exact ⟨hc, hf⟩)
  rw [arenaLineRisingEdge_eq hl, ha]
  dsimp only
  rw [ht, hstart, State.startMatch_clocks hnext, PerHalf.get_set_self, harmed]
  exact ⟨rfl, rfl⟩

/-- The blocks that no edge of a line touches but that of a START line. -/
def State.EdgeKeeps (s t : State) : Prop :=
  t.tables = s.tables ∧ t.split = s.split ∧ t.slots = s.slots ∧ t.stations = s.stations ∧ t.served = s.served ∧
  t.radio = s.radio ∧ t.links = s.links ∧ t.entries = s.entries ∧ t.outputs = s.outputs ∧ t.bus = s.bus ∧
  t.elements = s.elements ∧ t.sensors = s.sensors ∧ t.scores = s.scores ∧ t.pending = s.pending

/-- R40, R42 to R44: the edge of a line that is not a START line touches the lines, the clocks, the claims with their console
lines, and the trunk port. -/
theorem arenaLineRisingEdge_keeps {s : State} {n : Fin 4} (hl : (s.lines.get n).level = false)
    (ha : (s.lines.get n).action ≠ .start) : s.EdgeKeeps (arenaLineRisingEdge n s) := by
  have hraised : s.EdgeKeeps (s.lineRaised n) := by simp [State.EdgeKeeps, State.lineRaised]
  have hstop : ∀ t h, s.EdgeKeeps t → s.EdgeKeeps (t.latchStop h (.line n)) := fun t h ht => by
    simpa [State.EdgeKeeps] using ht
  rw [arenaLineRisingEdge_eq hl]
  split
  case h_1 he => exact absurd he ha
  case h_2 => exact State.eachHalf_inv hstop hraised _
  case h_3 => exact hraised
  case h_4 => exact hraised

theorem State.EdgeKeeps.eq {s t : State} (h : s.EdgeKeeps t) :
    t = { s with lines := t.lines, clocks := t.clocks, claims := t.claims, console := t.console, trunk := t.trunk } := by
  obtain ⟨htables, hsplit, hslots, hstations, hserved, hradio, hlinks, hentries, houtputs, hbus, helements, hsensors, hscores,
    hpending⟩ := h
  exact State.eq_of_blocks htables rfl hsplit rfl hslots hstations hserved rfl hradio hlinks hentries houtputs hbus helements rfl
    hsensors hscores rfl hpending

/-- Settles O31: a rising edge engages its line and acts on its target, a falling edge releases it. -/
theorem arenaLineEdges : Obligations.ArenaLineEdges := by
  refine ⟨fun s n hl => ⟨arenaLineRisingEdge n s, rfl, ?level, ?engaged, ?others, fun ha h hh => ?hold,
      fun ha h hh => arenaLineRisingEdge_stops hl ha hh, fun ha h j hh hc hf hj => ?start,
      fun ha => (arenaLineRisingEdge_keeps hl ha).eq⟩,
    fun s n hl => ⟨(s.setLine n fun x => { x with level := false, engaged := none }).deriveHolds,
      congrArg Host.Outcome.next (if_pos hl), ?released, fun h => ?clocks, ?frame⟩⟩
  case level =>
    obtain ⟨-, count, hlines⟩ := arenaLineRisingEdge_lines hl
    rw [hlines, Tab.get_set_self, State.lineRaised_lines, Tab.get_set_self]
    rfl
  case engaged =>
    obtain ⟨-, count, hlines⟩ := arenaLineRisingEdge_lines hl
    rw [hlines, Tab.get_set_self, State.lineRaised_lines, Tab.get_set_self]
    rfl
  case others =>
    intro m hm
    obtain ⟨-, count, hlines⟩ := arenaLineRisingEdge_lines hl
    rw [hlines, Tab.get_set_ne _ _ hm.symm, State.lineRaised_lines, Tab.get_set_ne _ _ hm.symm]
  case hold =>
    rw [arenaLineRisingEdge_eq hl, ha]
    dsimp only
    rw [State.lineRaised_clocks, State.lineRaised_holds ha hh]
    exact ⟨rfl, fun hc => Clock.settle_lineHold hc⟩
  case start =>
    rw [(arenaLineRisingEdge_lines hl).lineHold]
    exact arenaLineRisingEdge_starts hl ha hh hc hf hj
  case released => simp [Tab.modify]
  case clocks =>
    rw [State.deriveHolds_clocks]
    refine ⟨by simp [Clock.settle], rfl, fun hc => ?_⟩
    simp [Clock.settle, hc]
  case frame => apply State.eq_of_blocks <;> simp

/-! ## Ignored starts (R41) -/

/-- R42: a START line holds no clock: engaging one that had no engagement leaves the line holds. -/
theorem State.lineHold_raised {s : State} {n : Fin 4} (ha : (s.lines.get n).action = .start)
    (he : (s.lines.get n).engaged = none) (h : Half) : (s.setLine n ArenaLine.raised).lineHold h = s.lineHold h := by
  simp only [State.lineHold, State.engagedWith, State.setLine_lines, State.setLine_derived]
  refine congrArg (List.any _) (funext fun m => ?_)
  by_cases hm : n = m
  · subst hm
    simp [ArenaLine.raised, ha, he]
  · rw [Tab.get_modify_ne _ _ hm]

/-- R26, R42: settled clocks whose line holds stand as the lines give them stay as they are. -/
theorem State.deriveHolds_same {s : State} (hsettled : s.Settled) (hholds : ∀ h, (s.clocks.get h).lineHold = s.lineHold h) :
    s.deriveHolds = s := by
  have hderive : ∀ h, s.deriveHold h = s := fun h => by
    refine s.changeHolds_same h _ ?_
    rw [← hholds h]
    exact Clock.settle_of_settled (hsettled h)
  rw [State.deriveHolds, hderive .a, hderive .b]

/-- Settles O32: the line is engaged without a hold, and its one clock cannot start. -/
theorem ignoredStartIsCounted : Obligations.IgnoredStartIsCounted := by
  intro s n hl ha hoff hno hholds hsettled hreleased
  have hraised : s.lineRaised n = s.setLine n ArenaLine.raised :=
    State.deriveHolds_same hsettled fun h => (hholds h).trans (State.lineHold_raised ha (hreleased n hl) h).symm
  have hedge : arenaLineRisingEdge n s = (s.setLine n ArenaLine.raised).startEdge n .a := by
    rw [arenaLineRisingEdge_eq hl, ha, hraised]
    simp [State.eachHalf, State.targets, hoff]
  have hignored : (s.setLine n ArenaLine.raised).startEdge n .a =
      (s.setLine n ArenaLine.raised).setLine n fun x => { x with ignoredStarts := bump x.ignoredStarts } := if_neg hno
  refine congrArg Host.Outcome.next (hedge.trans (hignored.trans
    (congrArg (fun lines => { s with lines := lines }) (Tab.ext fun m => ?_))))
  by_cases hm : n = m
  · subst hm
    simp [ArenaLine.raised, ha]
  · rw [Tab.get_modify_ne _ _ hm, State.setLine_lines, Tab.get_modify_ne _ _ hm, Tab.get_set_ne _ _ hm]

end Sys2Proof.Machine
end

section
/-! PROOFS. One tenth at the claim unit (R143 to R145). -/

namespace Sys2Proof.Machine

/-! ## One claim (R144, R145) -/

/-- R145: a held claim with hold points has accrued a tenth. -/
def Claim.accrued (points : Nat) (c : Claim) : Claim :=
  if c.holder = none ∨ points = 0 then c
  else { c with accumulator := if 9 ≤ c.accumulator then c.accumulator - 9 else c.accumulator + 1 }

/-- R144: a running hold timer has counted a tenth. -/
def Claim.countedDown (limit : Nat) (c : Claim) : Claim :=
  match c.timer with
  | none => c
  | some left =>
    if left ≤ 1 then (if c.holder = none then c else c.promoted limit) else { c with timer := some (left - 1) }

theorem Claim.accrued_keeps (points : Nat) (c : Claim) :
    (c.accrued points).holder = c.holder ∧ (c.accrued points).waiters = c.waiters ∧ (c.accrued points).timer = c.timer := by
  rw [Claim.accrued]
  split <;> exact ⟨rfl, rfl, rfl⟩

/-- R144: a hold timer with more than one tenth left takes nobody's place. -/
theorem Claim.countedDown_keeps {limit : Nat} {c : Claim} (hc : ∀ left, c.timer = some left → 2 ≤ left) :
    c.countedDown limit = { c with timer := c.timer.map (· - 1) } := by
  obtain ⟨holder, waiters, timer, accumulator⟩ := c
  cases timer with
  | none => rfl
  | some left =>
    have hleft : ¬ left ≤ 1 := by have := hc left rfl; omega
    simp [Claim.countedDown, hleft]

theorem Claim.countedDown_expired {limit left : Nat} {c : Claim} (hh : c.holder ≠ none) (ht : c.timer = some left) (hl : left ≤ 1) :
    c.countedDown limit = c.promoted limit := by
  simp [Claim.countedDown, ht, hl, hh]

/-! ## One element (R143 to R145) -/

/-- R145: the claims after an accrual. -/
theorem State.accrue_claims_eq (s : State) (h : Half) (e : Fin 32) :
    (s.accrue h e).claims = s.claims.set e ((s.claims.get e).accrued (s.entries.get e).holdPoints) := by
  simp only [State.accrue, Claim.accrued]
  cases hh : (s.claims.get e).holder with
  | none => simp
  | some n =>
    dsimp only
    by_cases hp : (s.entries.get e).holdPoints = 0
    · simp [hp]
    · by_cases ha : 9 ≤ (s.claims.get e).accumulator
      · have hfull : ¬ (s.claims.get e).accumulator + 1 < 10 := by omega
        cases (s.stationEntry n).alliance <;> simp [hp, ha, hfull, hh, Tab.modify]
      · have hroom : (s.claims.get e).accumulator + 1 < 10 := by omega
        simp [hp, ha, hroom, hh, Tab.modify]

/-- R145: the tenth tenth credits the alliance of the holder. -/
theorem State.accrue_scores (s : State) (h : Half) (e : Fin 32) {n : Fin 12} (hn : (s.claims.get e).holder = some n)
    (hp : (s.entries.get e).holdPoints ≠ 0) :
    (s.accrue h e).scores = if 9 ≤ (s.claims.get e).accumulator then
      s.scores.set h ((s.scores.get h).plus (s.entries.get e).holdPoints (s.stationEntry n).alliance) else s.scores := by
  simp only [State.accrue, hn, if_neg hp]
  by_cases ha : 9 ≤ (s.claims.get e).accumulator
  · rw [if_neg (by omega), if_pos ha]
    cases (s.stationEntry n).alliance with
    | none => exact (PerHalf.set_get _ _).symm
    | some side => cases side <;> rfl
  · rw [if_pos (by omega), if_neg ha]
    rfl

/-- R145: an element without holder or without hold points credits nobody. -/
theorem State.accrue_quiet {s : State} {e : Fin 32} (hq : (s.entries.get e).holdPoints ≠ 0 → (s.claims.get e).holder = none)
    (h : Half) : s.accrue h e = s := by
  rw [State.accrue]
  cases hh : (s.claims.get e).holder with
  | none => rfl
  | some n =>
    have hp : (s.entries.get e).holdPoints = 0 := by
      by_contra hp
      simp [hq hp] at hh
    simp [hp]

theorem State.countHold_claims (s : State) (e : Fin 32) :
    (s.countHold e).claims = s.claims.set e ((s.claims.get e).countedDown (s.entries.get e).holdLimit) := by
  rw [State.countHold, Claim.countedDown]
  cases ht : (s.claims.get e).timer with
  | none => exact (Tab.set_get _ _).symm
  | some left =>
    dsimp only
    by_cases hl : left ≤ 1
    · rw [if_pos hl, if_pos hl]
      cases hh : (s.claims.get e).holder with
      | none => simp [State.expireHold, hh]
      | some n => simp [s.expireHold_claims e n hh]
    · simp [hl, Tab.modify]

/-- R144: a hold timer with more than one tenth left answers nobody. -/
theorem State.countHold_console {s : State} {e : Fin 32} (ht : ∀ left, (s.claims.get e).timer = some left → 2 ≤ left) :
    (s.countHold e).console = s.console := by
  rw [State.countHold]
  split
  case h_1 => rfl
  case h_2 left hleft =>
    have := ht left hleft
    rw [if_neg (by omega)]
    rfl

/-- R144, R145: the claim of an element after a tenth of a half. -/
def State.tenthClaim (s : State) (h : Half) (e : Fin 32) : Claim :=
  if s.sharedIn h e then
    ((s.claims.get e).accrued (s.entries.get e).holdPoints).countedDown (s.entries.get e).holdLimit
  else s.claims.get e

theorem State.claimTenth_claims (s : State) (h : Half) (e : Fin 32) :
    (s.claimTenth h e).claims = s.claims.set e (s.tenthClaim h e) := by
  rw [State.claimTenth, State.tenthClaim]
  cases hs : s.sharedIn h e with
  | false => exact (Tab.set_get _ _).symm
  | true =>
    rw [if_pos rfl, if_pos rfl, State.countHold_claims, State.accrue_claims_eq, Tab.get_set_self, Tab.set_set]
    simp only [State.accrue_keeps]

/-! ## Every element (R144, R145) -/

/-- A tenth of some elements of a half. -/
def State.tenthsOf (s : State) (h : Half) (elements : List (Fin 32)) : State := elements.foldl (fun t e => t.claimTenth h e) s

theorem State.claimTenths_eq (s : State) (h : Half) : s.claimTenths h = s.tenthsOf h allElements := rfl

/-- What a tenth of some elements leaves as it was. -/
theorem State.tenthsOf_keeps (s : State) (h : Half) (elements : List (Fin 32)) :
    (s.tenthsOf h elements).entries = s.entries ∧ (s.tenthsOf h elements).sharedIn = s.sharedIn ∧
      (s.tenthsOf h elements).stationEntry = s.stationEntry := by
  refine ⟨foldl_keeps State.entries _ (fun t e => by simp) _ _, foldl_keeps State.sharedIn _ (fun t e => ?_) _ _,
    foldl_keeps State.stationEntry _ (fun t e => by simp) _ _⟩
  funext g x
  simp [State.sharedIn]

theorem State.tenthsOf_claims (s : State) (h : Half) {elements : List (Fin 32)} (hl : elements.Nodup) (e : Fin 32) :
    (s.tenthsOf h elements).claims.get e = if e ∈ elements then s.tenthClaim h e else s.claims.get e := by
  refine foldl_cell (fun t e => t.claims.get e) (fun t e => t.claimTenth h e)
    (fun e c => if s.sharedIn h e then (c.accrued (s.entries.get e).holdPoints).countedDown (s.entries.get e).holdLimit else c)
    (fun t => t.entries = s.entries ∧ t.sharedIn = s.sharedIn) (fun t x ht => ?_) (fun t x y ht => ?_) elements s e hl ⟨rfl, rfl⟩
  · refine ⟨by simpa using ht.1, ?_⟩
    rw [← ht.2]
    funext g y
    simp [State.sharedIn]
  · simp only [State.claimTenth_claims, Tab.get_set, State.tenthClaim, ht.1, ht.2]

theorem State.claimTenths_claims (s : State) (h : Half) (e : Fin 32) : (s.claimTenths h).claims.get e = s.tenthClaim h e := by
  rw [State.claimTenths_eq, s.tenthsOf_claims h nodup_allElements, if_pos (mem_allElements e)]

/-- R144: without a timer at its last tenth, a tenth answers nobody. -/
theorem State.tenthsOf_console {h : Half} :
    ∀ (elements : List (Fin 32)) (s : State), elements.Nodup →
      (∀ e ∈ elements, ∀ left, (s.claims.get e).timer = some left → 2 ≤ left) → (s.tenthsOf h elements).console = s.console
  | [], _, _, _ => rfl
  | x :: rest, s, hl, ht => by
    obtain ⟨hx, hrest⟩ := List.nodup_cons.mp hl
    have hfirst : (s.claimTenth h x).console = s.console := by
      rw [State.claimTenth]
      split
      case isTrue =>
        have hkept := (Claim.accrued_keeps (s.entries.get x).holdPoints (s.claims.get x)).2.2
        rw [State.countHold_console fun left hleft => ht x List.mem_cons_self left ?_]
        · simp
        · rwa [State.accrue_claims_eq, Tab.get_set_self, hkept] at hleft
      case isFalse => rfl
    refine Eq.trans (State.tenthsOf_console rest (s.claimTenth h x) hrest fun e he left hleft => ?_) hfirst
    refine ht e (List.mem_cons_of_mem x he) left ?_
    rwa [State.claimTenth_claims, Tab.get_set_ne _ _ (ne_of_mem_of_not_mem he hx).symm] at hleft

/-- R145: elements that are not shared in the half, or have no hold points or no holder, credit nobody. -/
theorem State.tenthsOf_scores {h : Half} :
    ∀ (elements : List (Fin 32)) (s : State), elements.Nodup →
      (∀ e ∈ elements, s.sharedIn h e = true → (s.entries.get e).holdPoints ≠ 0 → (s.claims.get e).holder = none) →
      (s.tenthsOf h elements).scores = s.scores
  | [], _, _, _ => rfl
  | x :: rest, s, hl, hq => by
    obtain ⟨hx, hrest⟩ := List.nodup_cons.mp hl
    have hfirst : (s.claimTenth h x).scores = s.scores := by
      rw [State.claimTenth]
      split
      case isTrue hs => simp [State.accrue_quiet (hq x List.mem_cons_self hs)]
      case isFalse => rfl
    refine (State.tenthsOf_scores rest (s.claimTenth h x) hrest fun e he hs hp => ?_).trans hfirst
    rw [State.claimTenth_claims, Tab.get_set_ne _ _ (ne_of_mem_of_not_mem he hx).symm]
    exact hq e (List.mem_cons_of_mem x he) (by simpa [State.sharedIn] using hs) (by simpa using hp)

/-- R145: with one accruing element in the half, a tenth credits its holder's alliance alone. -/
theorem State.claimTenths_scores {s : State} {h : Half} {e : Fin 32} {n : Fin 12} (hs : s.sharedIn h e = true)
    (hn : (s.claims.get e).holder = some n) (hp : (s.entries.get e).holdPoints ≠ 0)
    (hq : ∀ x, x ≠ e → s.sharedIn h x = true → (s.entries.get x).holdPoints ≠ 0 → (s.claims.get x).holder = none) :
    (s.claimTenths h).scores = if 9 ≤ (s.claims.get e).accumulator then
      s.scores.set h ((s.scores.get h).plus (s.entries.get e).holdPoints (s.stationEntry n).alliance) else s.scores := by
  obtain ⟨before, later, hall⟩ := List.append_of_mem (mem_allElements e)
  have hnodup : (before ++ [e] ++ later).Nodup := by simpa [← hall] using nodup_allElements
  obtain ⟨hfirst, hlater, hdisjoint⟩ := List.nodup_append.mp hnodup
  obtain ⟨hbefore, -, hnot⟩ := List.nodup_append.mp hfirst
  let met := s.tenthsOf h before
  have hmet : met.tenthsOf h [e] = s.tenthsOf h (before ++ [e]) := List.foldl_append.symm
  have hsplit : s.claimTenths h = (met.tenthsOf h [e]).tenthsOf h later := by
    rw [hmet, State.claimTenths_eq, hall, List.append_cons]
    exact List.foldl_append
  have hquietLater : ((met.tenthsOf h [e]).tenthsOf h later).scores = (met.tenthsOf h [e]).scores := by
    rw [hmet]
    refine State.tenthsOf_scores later _ hlater fun x hx hxs hxp => ?_
    have houtside : x ∉ before ++ [e] := fun hin => hdisjoint x hin x hx rfl
    obtain ⟨hentries, hshared, -⟩ := s.tenthsOf_keeps h (before ++ [e])
    rw [s.tenthsOf_claims h hfirst, if_neg houtside]
    exact hq x (fun he => houtside (by simp [he])) (hshared ▸ hxs) (hentries ▸ hxp)
  have hquietBefore : met.scores = s.scores :=
    State.tenthsOf_scores before s hbefore fun x hx hxs hxp => hq x (fun he => hnot x hx e (by simp) he) hxs hxp
  have hclaim : met.claims.get e = s.claims.get e := by
    rw [s.tenthsOf_claims h hbefore, if_neg fun he => hnot e he e (by simp) rfl]
  obtain ⟨hentries, hshared, hstation⟩ := s.tenthsOf_keeps h before
  have hcredit : (met.tenthsOf h [e]).scores = (met.accrue h e).scores := by
    simp [State.tenthsOf, State.claimTenth, show met.sharedIn h e = true from hshared ▸ hs]
  rw [hsplit, hquietLater, hcredit, met.accrue_scores h e (hclaim ▸ hn) (hentries ▸ hp), hquietBefore, hclaim, hentries, hstation]

end Sys2Proof.Machine
end

section
/-! PROOFS. Tenth events and the end of a phase (R35, R36, R143 to R146, R148). -/

namespace Sys2Proof.Machine

/-! ## A tenth (R35, R144, R145) -/

/-- R35: a RUNNING clock has counted a tenth, and the claim unit has taken it. -/
def State.tenthTaken (s : State) (h : Half) : State :=
  (s.setClock h fun c => { c with remaining := c.remaining - 1, elapsed := bump c.elapsed, tenthPos := 0 }).claimTenths h

/-- R35: a tenth of a RUNNING clock is taken, and the last one ends the phase. -/
theorem tenthEvent_eq {s : State} {h : Half} (hc : (s.clocks.get h).state = .running) :
    tenthEvent h s = if (s.clocks.get h).remaining ≤ 1 then (s.tenthTaken h).endPhase h else s.tenthTaken h := if_pos hc

theorem State.tenthTaken_clocks (s : State) (h : Half) :
    (s.tenthTaken h).clocks = s.clocks.set h { s.clocks.get h with
      remaining := (s.clocks.get h).remaining - 1, elapsed := min ((s.clocks.get h).elapsed + 1) 65535, tenthPos := 0 } := by
  simp [State.tenthTaken, PerHalf.modify_eq, bump]

theorem State.tenthTaken_claims (s : State) (h : Half) (e : Fin 32) : (s.tenthTaken h).claims.get e = s.tenthClaim h e :=
  State.claimTenths_claims _ h e

/-- R35, R144, R145: a tenth touches its clock, the claims with their console lines, and the scores. -/
theorem State.tenthTaken_eq (s : State) (h : Half) : s.tenthTaken h = { s with
    clocks := (s.tenthTaken h).clocks, claims := (s.tenthTaken h).claims, scores := (s.tenthTaken h).scores
    console := (s.tenthTaken h).console } := by
  apply State.eq_of_blocks <;> simp [State.tenthTaken]

theorem State.tenthTaken_keeps (s : State) (h : Half) :
    (s.tenthTaken h).split = s.split ∧ (s.tenthTaken h).tables = s.tables ∧ (s.tenthTaken h).entries = s.entries := by
  simp [State.tenthTaken]

theorem State.tenthTaken_active (s : State) (h : Half) : (s.tenthTaken h).active = s.active := by simp [State.tenthTaken]

/-- R144: a claim whose hold timer does not expire counts it down and keeps its holder and its waiters. -/
theorem State.tenthClaim_counts {s : State} {e : Fin 32} (ht : ∀ left, (s.claims.get e).timer = some left → 2 ≤ left) (h : Half) :
    (s.tenthClaim h e).holder = (s.claims.get e).holder ∧ (s.tenthClaim h e).waiters = (s.claims.get e).waiters ∧
      (s.sharedIn h e = true → (s.tenthClaim h e).timer = (s.claims.get e).timer.map (· - 1)) := by
  obtain ⟨hholder, hwaiters, htimer⟩ := Claim.accrued_keeps (s.entries.get e).holdPoints (s.claims.get e)
  rw [State.tenthClaim]
  split
  case isTrue =>
    rw [Claim.countedDown_keeps (by rwa [htimer])]
    exact ⟨hholder, hwaiters, fun _ => congrArg (Option.map _) htimer⟩
  case isFalse hs => exact ⟨rfl, rfl, fun hc => absurd hc hs⟩

/-- R144: with no timer at its last tenth, the boundary that a tenth reaches answers as if no tenth had been counted. -/
theorem State.tenthTaken_answers {s : State} (ht : ∀ e left, (s.claims.get e).timer = some left → 2 ≤ left) (h : Half)
    (p : PhaseEntry) : (s.tenthTaken h).phaseAnswers h p = s.phaseAnswers h p := by
  obtain ⟨hsplit, htables, hentries⟩ := s.tenthTaken_keeps h
  refine State.phaseAnswers_congr hsplit htables hentries (fun e => ?_) ?_ h p
  · obtain ⟨hholder, hwaiters, -⟩ := State.tenthClaim_counts (ht e) h
    rw [State.tenthTaken_claims]
    exact ⟨hholder, hwaiters⟩
  · exact State.tenthsOf_console allElements _ nodup_allElements fun e _ => ht e

/-- R36: the last tenth of a phase enters the next one. -/
theorem tenthEvent_last {s : State} {h : Half} {j : Fin 8} (hc : (s.clocks.get h).state = .running)
    (hr : (s.clocks.get h).remaining ≤ 1) (hj : NextPhase (s.active h).schedule ((s.clocks.get h).phase.val + 1) j) :
    tenthEvent h s = (s.tenthTaken h).enterPhase h j := by
  rw [tenthEvent_eq hc, if_pos hr, State.endPhase_of_next]
  rw [State.tenthTaken_active, State.tenthTaken_clocks, PerHalf.get_set_self]
  exact hj

theorem tenthEvent_within {s : State} {h : Half} (hc : (s.clocks.get h).state = .running) (hr : 2 ≤ (s.clocks.get h).remaining) :
    tenthEvent h s = s.tenthTaken h := by
  rw [tenthEvent_eq hc, if_neg (by omega)]

/-! ## The end of a phase (R36) -/

/-- R36: the state in which the phase of a clock has run out. -/
def State.phaseOver (s : State) (h : Half) : State := s.setClock h fun c => { c with remaining := 0, tenthPos := 0 }

theorem phaseExpiry_eq {s : State} {h : Half} (hc : (s.clocks.get h).state = .running) :
    phaseExpiry h s = (s.phaseOver h).endPhase h := if_pos hc

theorem State.phaseOver_clocks (s : State) (h : Half) :
    (s.phaseOver h).clocks = s.clocks.set h { s.clocks.get h with remaining := 0, tenthPos := 0 } := rfl

theorem State.phaseOver_phase (s : State) (h : Half) : ((s.phaseOver h).clocks.get h).phase = (s.clocks.get h).phase := by
  rw [State.phaseOver_clocks, PerHalf.get_set_self]

/-- Settles O30: a tenth event is a tenth taken and the end of its phase, and a tenth taken is one of each claim of the half. -/
theorem tenthsAndPhaseExpiryRunTheClock : Obligations.TenthsAndPhaseExpiryRunTheClock := by
  refine ⟨fun s h => ⟨fun hc => congrArg Host.Outcome.next (if_neg hc),
      fun hc hr => ⟨s.tenthTaken h, congrArg Host.Outcome.next (tenthEvent_within hc hr), s.tenthTaken_clocks h,
        fun e left hhalf howner hleft htwo => ?timers, s.tenthTaken_eq h⟩,
      fun j hc hr hj => ⟨(s.tenthTaken h).enterPhase h j, congrArg Host.Outcome.next (tenthEvent_last hc hr hj), ?lastClocks,
        fun e he => ?lastFlushed, fun ht => ?lastConsole⟩⟩,
    fun s h hc => ⟨fun j hj => ⟨(s.phaseOver h).enterPhase h j, ?next, ?clocks,
      ((s.phaseOver h).enterPhase_trunk h j).trans (State.report_trunk_congr rfl _), (s.phaseOver h).enterPhase_flushes h j,
      (s.phaseOver h).enterPhase_console h j, ?frame⟩,
      fun hn hq => ⟨(s.phaseOver h).matchEnded h, ?ended, ?endedClocks⟩⟩,
    fun s h e n hc hr hhalf howner hn hp hq => ⟨tenthEvent h s, rfl, ?scores, fun htwo =>
      ⟨fun ht => ?counted, fun left hleft hlast => ?expired⟩⟩⟩
  case timers =>
    obtain ⟨hholder, -, htimer⟩ := State.tenthClaim_counts (s := s) (e := e) (by simpa [hleft] using htwo) h
    rw [State.tenthTaken_claims, htimer ((s.sharedIn_iff h e).mpr ⟨hhalf, howner⟩), hleft, hholder]
    exact ⟨rfl, rfl⟩
  case lastClocks =>
    rw [State.enterPhase_clocks, State.tenthTaken_clocks, PerHalf.set_set, PerHalf.get_set_self, State.tenthTaken_active]
  case lastFlushed =>
    refine ((s.tenthTaken h).enterPhase_flushes h j e).1 ?_
    rw [State.tenthTaken_active]
    obtain ⟨hsplit, htables, hentries⟩ := s.tenthTaken_keeps h
    exact (State.phaseExcludes_congr hsplit htables hentries h _ e).mpr he
  case lastConsole => rw [State.enterPhase_console, State.tenthTaken_active, State.tenthTaken_answers ht]
  case next =>
    refine congrArg Host.Outcome.next ((phaseExpiry_eq hc).trans (State.endPhase_of_next ?_))
    rw [State.phaseOver_phase]
    exact hj
  case clocks =>
    rw [State.enterPhase_clocks, State.phaseOver_clocks, PerHalf.set_set, PerHalf.get_set_self]
    rfl
  case frame => apply State.eq_of_blocks <;> simp [State.phaseOver]
  case ended =>
    refine congrArg Host.Outcome.next ((phaseExpiry_eq hc).trans ((State.endPhase_of_last ?_).trans (State.endMatch_of_quiet hq)))
    rw [State.phaseOver_phase]
    exact hn
  case endedClocks =>
    rw [State.matchEnded_clocks, State.phaseOver_clocks, PerHalf.set_set, PerHalf.get_set_self]
    rfl
  all_goals have hshared : s.sharedIn h e = true := (s.sharedIn_iff h e).mpr ⟨hhalf, howner⟩
  case scores =>
    have htaken : (s.tenthTaken h).scores = _ := State.claimTenths_scores (s := s.setClock h _) hshared hn hp fun x hx hxs =>
      hq x hx ((s.sharedIn_iff h x).mp hxs).1 ((s.sharedIn_iff h x).mp hxs).2
    refine Eq.trans ?_ htaken
    by_cases hlast : (s.clocks.get h).remaining ≤ 1
    · obtain ⟨j, hj⟩ := hr.resolve_left (by omega)
      rw [tenthEvent_last hc hlast hj]
      simp
    · rw [tenthEvent_within hc (by omega)]
  all_goals
    have haccrued : (s.claims.get e).accrued (s.entries.get e).holdPoints = { s.claims.get e with
        accumulator := if 9 ≤ (s.claims.get e).accumulator then (s.claims.get e).accumulator - 9
          else (s.claims.get e).accumulator + 1 } := if_neg (by simp [hn, hp])
    rw [tenthEvent_within hc htwo, State.tenthTaken_claims, State.tenthClaim, if_pos hshared, haccrued]
  case counted => exact Claim.countedDown_keeps ht
  case expired => exact Claim.countedDown_expired (by simp [hn]) hleft hlast

end Sys2Proof.Machine
end

section
/-! PROOFS. The commands of the admission unit, and the silence of a station (R51, R54, R55, R61). -/

namespace Sys2Proof.Machine

/-! ## OVERRIDE, LINK_FLAG_CLEAR, STATION_RESUME (R51, R54, R55) -/

theorem decodeOverride_none {b : Byte} (hb : 3 ≤ b.toNat) : decodeOverride b = none := by
  have hb0 : b ≠ 0 := by bv_omega
  have hb1 : b ≠ 1 := by bv_omega
  have hb2 : b ≠ 2 := by bv_omega
  rw [decodeOverride, if_neg hb0, if_neg hb1, if_neg hb2]

/-- R51: what OVERRIDE answers for a slot and an override of the code tables. -/
theorem State.submit_override {s : State} (hs : s.Ready) (tag : Byte) (i : Fin 24) (v : Override) :
    s.submit tag (.command (.override (num8 i.val) (codeOverride v))) =
      if v = .forceEnable ∧ (s.clocks.get (s.slotHalf i)).state.started = true then s.replied tag .wrongState
      else (s.replied tag .ok).setSlot i fun x => { x with override := v } := by
  rw [State.submit_command hs, State.serveCommand, overrideVerdict, decodeIndex_fin24, Verdict.need_some, decodeOverride_code,
    Verdict.need_some]
  by_cases hv : v = .forceEnable <;> cases hc : (s.clocks.get (s.slotHalf i)).state.started <;> simp [hv, hc]

/-- R54: what STATION_RESUME answers for a station. -/
theorem State.submit_stationResume {s : State} (hs : s.Ready) (tag : Byte) (n : Fin 12) :
    s.submit tag (.command (.stationResume (num8 n.val))) =
      if (s.console.get n).breakPresent then s.replied tag .stillAsserted
      else if (s.stations.get n).stopLatch then
        ((s.replied tag .ok).setStation n fun x => { x with stopLatch := false }).report (.stationStop n false)
      else s.replied tag .ok := by
  rw [State.submit_command hs, State.serveCommand, stationResumeVerdict, decodeIndex_fin12, Verdict.need_some]
  cases hb : (s.console.get n).breakPresent <;> simp [hb]

/-- Settles O34: each command passes its owner's checks one by one, or stops at the first that fails. -/
theorem overridesFlagsAndStationStops : Obligations.OverridesFlagsAndStationStops := by
  refine ⟨⟨fun s tag i v hs => congrArg Host.Outcome.next ?override, fun s tag i hs => congrArg Host.Outcome.next ?flag⟩,
    fun s tag n hs => congrArg Host.Outcome.next ?resume,
    fun s tag index value hs => ⟨fun hi => ⟨fun _ => congrArg Host.Outcome.next ?overrideIndex,
      congrArg Host.Outcome.next ?flagIndex⟩, fun hi hv => congrArg Host.Outcome.next ?overrideValue,
      fun hi => congrArg Host.Outcome.next ?resumeIndex⟩⟩
  case override =>
    rw [State.submit_override hs]
    rfl
  case flag =>
    rw [State.submit_command hs, State.serveCommand, linkFlagClearVerdict, decodeIndex_fin24]
    rfl
  case resume =>
    rw [State.submit_stationResume hs]
    rfl
  case overrideIndex =>
    rw [State.submit_command hs, State.serveCommand, overrideVerdict, decodeIndex_none hi, Verdict.need_none,
      State.carryOut_refuse, State.counted_answer]
  case flagIndex =>
    rw [State.submit_command hs, State.serveCommand, linkFlagClearVerdict, decodeIndex_none hi, Verdict.need_none,
      State.carryOut_refuse, State.counted_answer]
  case overrideValue =>
    rw [State.submit_command hs, State.serveCommand, overrideVerdict, decodeIndex, dif_pos hi, Verdict.need_some,
      decodeOverride_none hv, Verdict.need_none, State.carryOut_refuse, State.counted_answer]
  case resumeIndex =>
    rw [State.submit_command hs, State.serveCommand, stationResumeVerdict, decodeIndex_none hi, Verdict.need_none,
      State.carryOut_refuse, State.counted_answer]

/-! ## Silence (R61) -/

theorem silenceTimerExpiry_eq {s : State} {n : Fin 12} (hn : (s.stations.get n).silence ≠ none) :
    silenceTimerExpiry n s = (s.setStation n fun x => { x with silence := none }).zeroStation n :=
  if_pos (Option.isSome_iff_ne_none.mpr hn)

@[simp] theorem State.zeroStation_slots (s : State) (n : Fin 12) (i : Fin 24) :
    (s.zeroStation n).slots.get i = if (s.slotEntry i).station = some n then (s.slots.get i).zeroTargets else s.slots.get i := by
  simp [State.zeroStation]

/-- Settles O38: a station made QUIET, and its slots zeroed. -/
theorem silenceExpiryZeroesTheTargets : Obligations.SilenceExpiryZeroesTheTargets := by
  intro s n hn
  refine ⟨_, congrArg Host.Outcome.next (silenceTimerExpiry_eq hn), ?stations, fun i => ?slots, ?frame⟩
  case stations => simp [Tab.modify]
  case slots =>
    rw [State.zeroStation_slots]
    simp [SlotAdmission.zeroTargets]
  case frame => apply State.eq_of_blocks <;> simp

end Sys2Proof.Machine
end

section
/-! PROOFS. Frames taken from the console lines and replies placed on them (R56, R60, R90, R92, R94). -/

namespace Sys2Proof.Machine

/-! ## What a line sends (R86 to R90) -/

/-- Two states of a line that agree in all that R92 and R94 look at. -/
def ConsoleLine.SendsAs (l l' : ConsoleLine) : Prop :=
  l'.queue = l.queue ∧ l'.wire = l.wire ∧ l'.counters.telemetryDropped = l.counters.telemetryDropped ∧
    l'.counters.replyLosses = l.counters.replyLosses

theorem ConsoleLine.SendsAs.refl (l : ConsoleLine) : l.SendsAs l := ⟨rfl, rfl, rfl, rfl⟩

theorem ConsoleLine.SendsAs.trans {l l' l'' : ConsoleLine} (h : l.SendsAs l') (k : l'.SendsAs l'') : l.SendsAs l'' := by
  obtain ⟨hqueue, hwire, hdropped, hlosses⟩ := h
  obtain ⟨kqueue, kwire, kdropped, klosses⟩ := k
  exact ⟨kqueue.trans hqueue, kwire.trans hwire, kdropped.trans hdropped, klosses.trans hlosses⟩

theorem ConsoleLine.assemble_sends (l : ConsoleLine) (a : Assembler) : l.SendsAs (l.assemble a) := .refl l

theorem ConsoleLine.hunt_sends (l : ConsoleLine) (e : FifoEntry) : l.SendsAs (l.hunt e) := by
  rw [ConsoleLine.hunt]
  split <;> exact l.assemble_sends _

theorem ConsoleLine.judge_sends (l : ConsoleLine) (bytes : List Byte) (damaged : Bool) : l.SendsAs (l.judge bytes damaged) := by
  simp only [ConsoleLine.judge]
  repeat' split
  all_goals exact .refl l

theorem ConsoleLine.takeByte_sends (l : ConsoleLine) (bytes : List Byte) (damaged : Bool) :
    l.SendsAs (l.takeByte bytes damaged) := by
  rw [ConsoleLine.takeByte]
  split
  · split <;> exact .refl l
  · split
    · exact l.judge_sends bytes damaged
    · exact l.assemble_sends _

theorem ConsoleLine.absorb_sends (l : ConsoleLine) (e : FifoEntry) : l.SendsAs (l.absorb e) := by
  rw [ConsoleLine.absorb]
  cases l.assembler with
  | waiting held => exact .refl l
  | hunting => exact l.hunt_sends e
  | assembling bytes damaged =>
    dsimp only
    split
    · exact (l.assemble_sends .hunting).trans (ConsoleLine.hunt_sends _ e)
    · split
      · exact ConsoleLine.SendsAs.trans (.refl l) (l.abandonGap.hunt_sends e)
      · exact l.takeByte_sends _ _

theorem drainEntries_sends : ∀ (entries : List FifoEntry) (l : ConsoleLine), l.SendsAs (drainEntries entries l)
  | [], l => .refl l
  | e :: rest, l => by
    rw [drainEntries]
    split
    · exact .refl l
    · exact (l.absorb_sends e).trans (drainEntries_sends rest _)

/-! ## A frame taken (R56, R90) -/

theorem State.takeFrame_console_ne (s : State) {n m : Fin 12} (hm : m ≠ n) :
    (s.takeFrame n).console.get m = s.console.get m :=
  Tab.get_modify_ne _ _ hm.symm

/-- R90: the assembler freed by a taken frame goes on, and the line sends as before. -/
theorem State.takeFrame_sends (s : State) (n : Fin 12) : (s.console.get n).SendsAs ((s.takeFrame n).console.get n) := by
  have hconsole : (s.takeFrame n).console.get n = ((s.console.get n).assemble .hunting).drain := Tab.get_modify_self _ _ _
  rw [hconsole, ConsoleLine.drain]
  exact ((s.console.get n).assemble_sends .hunting).trans (drainEntries_sends _ _)

/-- R56, R57: the next waiting frame is a CONTROL frame. -/
theorem exec_controlFrame {s : State} {n : Fin 12} {f : ControlFrame} (hn : s.nextLine = some n)
    (hf : (s.console.get n).assembler = .waiting (.control f)) : exec .controlFrame s = .next ((s.takeFrame n).control n f) := by
  have hcontrol : controlFrame s = (s.takeFrame n).control n f := by simp only [controlFrame, hn, hf]
  exact congrArg Host.Outcome.next hcontrol

/-- R56, R60: the next waiting frame is a PING. -/
theorem exec_ping {s : State} {n : Fin 12} (hn : s.nextLine = some n) (hf : (s.console.get n).assembler = .waiting .ping) :
    exec .ping s = .next ((s.takeFrame n).setConsole n (·.pushReply (s.statusFrame n))) := by
  have hping : pingEvent s = (s.takeFrame n).setConsole n (·.pushReply (s.statusFrame n)) := by simp only [pingEvent, hn, hf]
  exact congrArg Host.Outcome.next hping

/-! ## Replies placed (R92, R94) -/

/-- The oldest TELEMETRY frame of a queue leaves it. -/
theorem evictTelemetry_first {x : ConsoleOut} (hx : x.isTelemetry = true) (after : List ConsoleOut) :
    ∀ before : List ConsoleOut, (∀ y ∈ before, y.isTelemetry = false) →
      evictTelemetry (before ++ x :: after) = some (before ++ after)
  | [], _ => by cases x <;> simp_all [ConsoleOut.isTelemetry, evictTelemetry]
  | y :: before, h => by
    obtain ⟨hy, hbefore⟩ := List.forall_mem_cons.mp h
    have ih := evictTelemetry_first hx after before hbefore
    cases y <;> simp_all [ConsoleOut.isTelemetry, evictTelemetry]

theorem evictTelemetry_none : ∀ {queue : List ConsoleOut}, (∀ y ∈ queue, y.isTelemetry = false) → evictTelemetry queue = none
  | [], _ => rfl
  | y :: rest, h => by
    obtain ⟨hy, hrest⟩ := List.forall_mem_cons.mp h
    have ih := evictTelemetry_none hrest
    cases y <;> simp_all [ConsoleOut.isTelemetry, evictTelemetry]

theorem ConsoleLine.pushReply_room {l : ConsoleLine} (hl : l.queue.length < 4) (f : ConsoleOut) : l.pushReply f = l.push f :=
  if_pos hl

/-- R94: a reply handed to a line is placed. -/
theorem ConsoleLine.pushReply_placed (l : ConsoleLine) (f : ConsoleOut) : ReplyPlaced l (l.pushReply f) f := by
  refine ⟨fun hroom => ?room, fun first before x after hfull hqueue hx hbefore => ?evicts, fun hfull hnone => ?lost⟩
  case room =>
    rw [ConsoleLine.pushReply_room hroom]
    exact ⟨⟨rfl, rfl⟩, rfl, rfl⟩
  case evicts =>
    have htail : evictTelemetry l.queue.tail = some (before ++ after) := by
      rw [hqueue]
      exact evictTelemetry_first hx after before hbefore
    rw [ConsoleLine.pushReply, if_neg (Nat.not_lt.mpr hfull), htail]
    exact ⟨by simp [hqueue], rfl, rfl, rfl⟩
  case lost =>
    rw [ConsoleLine.pushReply, if_neg (Nat.not_lt.mpr hfull), evictTelemetry_none hnone]
    exact ⟨rfl, rfl, rfl, rfl⟩

/-- Where a reply is placed is a matter of what the line sends. -/
theorem ReplyPlaced.of_sends {l l' l'' : ConsoleLine} {f : ConsoleOut} (h : l.SendsAs l') (hp : ReplyPlaced l' l'' f) :
    ReplyPlaced l l'' f := by
  obtain ⟨hqueue, hwire, hdropped, hlosses⟩ := h
  simpa only [ReplyPlaced, JoinsTail, hqueue, hwire, hdropped, hlosses] using hp

theorem ReplyPlaced.queue_of_room {l l' : ConsoleLine} {f : ConsoleOut} (h : ReplyPlaced l l' f) (hl : l.queue.length < 4) :
    l'.queue = l.queue ++ [f] := by
  obtain ⟨⟨hqueue, -⟩, -⟩ := h.1 hl
  exact hqueue

/-! ## PING (R60) -/

/-- R60: the STATUS frame, field by field. -/
theorem State.statusFrame_eq (s : State) (n : Fin 12) : s.statusFrame n =
    .status (decide ((s.stationEntry n).team ≠ 0)) (s.stations.get n).stopLatch (s.console.get n).breakPresent
      (s.stations.get n).silence.isSome (.build (s.selectorStatus n)) := by
  have hpresent : (s.stationEntry n).present = decide ((s.stationEntry n).team ≠ 0) := by
    rw [StationEntry.present, Bool.eq_iff_iff]
    simp
  rw [State.statusFrame, hpresent]

/-- R60: the state after a PING of a line. -/
def State.pinged (s : State) (n : Fin 12) : State := (s.takeFrame n).setConsole n (·.pushReply (s.statusFrame n))

theorem State.pinged_placed (s : State) (n : Fin 12) :
    ReplyPlaced (s.console.get n) ((s.pinged n).console.get n) (s.statusFrame n) := by
  have hconsole : (s.pinged n).console.get n = ((s.takeFrame n).console.get n).pushReply (s.statusFrame n) :=
    Tab.get_modify_self _ _ _
  rw [hconsole]
  exact (ConsoleLine.pushReply_placed _ _).of_sends (s.takeFrame_sends n)

theorem State.pinged_console_ne (s : State) {n m : Fin 12} (hm : m ≠ n) : (s.pinged n).console.get m = s.console.get m :=
  (Tab.get_modify_ne _ _ hm.symm).trans (s.takeFrame_console_ne hm)

/-- Settles O37: the frame is taken, and the STATUS of the state before it is placed. -/
theorem pingQueuesTheStatus : Obligations.PingQueuesTheStatus := by
  refine ⟨fun s n hn hf hroom => ⟨s.pinged n, exec_ping hn hf, ⟨.build (s.selectorStatus n), ?queue, fun k => Tab.get_build _ k⟩,
      fun m hm => s.pinged_console_ne hm, rfl⟩,
    fun s n hn hf => ⟨s.pinged n, .build (s.selectorStatus n), exec_ping hn hf, ?placed, fun k => Tab.get_build _ k,
      fun m hm => s.pinged_console_ne hm, rfl⟩⟩
  case queue =>
    rw [← State.statusFrame_eq]
    exact (s.pinged_placed n).queue_of_room hroom
  case placed =>
    rw [← State.statusFrame_eq]
    exact s.pinged_placed n

end Sys2Proof.Machine
end

section
/-! PROOFS. The drive part of CONTROL frames (R57, R58, R66 to R70). -/

namespace Sys2Proof.Machine

theorem State.findSlot_congr {s t : State} (hsplit : t.split = s.split) (htables : t.tables = s.tables) :
    t.findSlot = s.findSlot := by
  obtain ⟨hslot, hstation, -, -, -, -, hentry, -⟩ := State.tables_congr hsplit htables
  funext n selector
  simp only [State.findSlot, hslot, hstation, hentry]

@[simp] theorem State.takeFrame_findSlot (s : State) (n : Fin 12) : (s.takeFrame n).findSlot = s.findSlot :=
  State.findSlot_congr (by simp) (by simp)

theorem StationEntry.present_iff (e : StationEntry) : e.present = true ↔ e.team ≠ 0 := by simp [StationEntry.present]

/-! ## Who drives (R57, R58) -/

/-- R57, R58: a CONTROL frame of a present station without its element request: its drive part, or a count. -/
def State.driven (s : State) (n : Fin 12) (f : ControlFrame) : State :=
  match s.findSlot n f.selector with
  | some i => s.drive n i f
  | none => s.setStation n fun x => { x with noSlot := bump x.noSlot }

theorem State.driven_found {s : State} {n : Fin 12} {f : ControlFrame} {i : Fin 24} (hi : s.findSlot n f.selector = some i) :
    s.driven n f = s.drive n i f := by
  simp only [State.driven, hi]

theorem State.driven_unfound {s : State} {n : Fin 12} {f : ControlFrame} (hi : s.findSlot n f.selector = none) :
    s.driven n f = s.setStation n fun x => { x with noSlot := bump x.noSlot } := by
  simp only [State.driven, hi]

theorem State.control_absent {s : State} {n : Fin 12} (hn : (s.stationEntry n).team = 0) (f : ControlFrame) :
    s.control n f = s.setStation n fun x => { x with unassigned := bump x.unassigned } :=
  if_neg (by simp [StationEntry.present, hn])

theorem State.control_quiet {s : State} {n : Fin 12} {f : ControlFrame} (hn : (s.stationEntry n).team ≠ 0)
    (hf : f.request = none) : s.control n f = s.driven n f := by
  rw [State.control, if_pos ((StationEntry.present_iff _).mpr hn), hf]
  rfl

/-- R59: the element request of a CONTROL frame comes after its drive part, and is answered on the station's line. -/
theorem State.control_requests {s : State} {n : Fin 12} {f : ControlFrame} {r : ElementRequest}
    (hn : (s.stationEntry n).team ≠ 0) (hf : f.request = some r) :
    s.control n f = ((s.driven n f).request n r).1.tell n r.element ((s.driven n f).request n r).2 := by
  rw [State.control, if_pos ((StationEntry.present_iff _).mpr hn), hf]
  rfl

/-! ## What drives (R58, R66 to R70) -/

/-- R58: the drive part of a stopped station is discarded and counted. -/
theorem State.drive_stopped {s : State} {n : Fin 12} (hn : (s.stations.get n).stopLatch = true) (i : Fin 24) (f : ControlFrame) :
    s.drive n i f = s.setSlot i fun x => { x with discarded := bump x.discarded } :=
  if_pos hn

/-- R58: a slot that admitted a frame. -/
def SlotAdmission.driveWith (x : SlotAdmission) (targets : Tab 6 Int) (buttons : Byte) : SlotAdmission :=
  { x with targets := targets, buttons := buttons, admitted := bump x.admitted }

/-- R58: under a profile that admits drive, targets are conditioned and buttons masked, and the silence timer is reloaded. -/
theorem State.drive_admitted {s : State} {n : Fin 12} {i : Fin 24} {p : Profile} (hn : (s.stations.get n).stopLatch = false)
    (ht : s.testMode i = false) (hp : s.profileInForce (s.slotHalf i) = some p) (hd : p.driveAdmit = true) (f : ControlFrame) :
    s.drive n i f =
      (s.setSlot i (·.driveWith
        (.build fun k => condition (s.slotEntry i).power (s.slotEntry i).deadband p.scale (f.channels.get k))
        (f.buttons &&& p.buttons))).setStation n fun x => { x with silence := some (s.stationEntry n).hold } := by
  simp only [State.drive, hn, ht, hp, hd, Bool.false_eq_true, if_false, if_true, SlotAdmission.driveWith]

theorem State.takeFrame_testMode (s : State) (n : Fin 12) : (s.takeFrame n).testMode = s.testMode := by
  funext i
  simp only [State.testMode, State.takeFrame_keeps, State.takeFrame_derived]

theorem State.takeFrame_profileInForce (s : State) (n : Fin 12) : (s.takeFrame n).profileInForce = s.profileInForce := by
  funext h
  simp only [State.profileInForce, State.phaseInForce, State.takeFrame_keeps, State.takeFrame_derived]

/-- Settles O35: the frame is taken, and its drive part admitted, discarded, or left out with the whole frame. -/
theorem controlFrameConditionsOrIsDiscarded : Obligations.ControlFrameConditionsOrIsDiscarded := by
  refine ⟨fun s n i f p hn hf hr hteam hi hstop htest hp hd => ?admitted, fun s n i f hn hf hr hteam hi hstop => ?discarded,
    fun s n f hn hf hteam => ?absent⟩
  case admitted =>
    have hcontrol := (exec_controlFrame hn hf).trans (congrArg Host.Outcome.next (State.control_quiet (by simpa using hteam) hr))
    rw [State.driven_found (by simpa using hi), State.drive_admitted (p := p) (by simpa using hstop)
      (by simpa [State.takeFrame_testMode] using htest) (by simpa [State.takeFrame_profileInForce] using hp) hd] at hcontrol
    refine ⟨_, hcontrol, rfl, fun k => ?targets, ?buttons, ?count, ?lastSent, fun j hj => ?others, ?stations, rfl⟩
    case targets => simp [SlotAdmission.driveWith, condition, scaleChannel, deadband, boundChannel, clampInt]
    case buttons | count | lastSent => simp [SlotAdmission.driveWith]
    case others => simp [Tab.get_modify_ne _ _ hj.symm]
    case stations => simp [Tab.modify]
  case discarded =>
    have hcontrol := (exec_controlFrame hn hf).trans (congrArg Host.Outcome.next (State.control_quiet (by simpa using hteam) hr))
    rw [State.driven_found (by simpa using hi), State.drive_stopped (by simpa using hstop)] at hcontrol
    exact ⟨_, hcontrol, rfl, rfl⟩
  case absent =>
    have hcontrol := (exec_controlFrame hn hf).trans (congrArg Host.Outcome.next (State.control_absent (by simpa using hteam) f))
    exact ⟨_, hcontrol, rfl, rfl⟩

end Sys2Proof.Machine
end

section
/-! PROOFS. Element requests: the checks, the decisions of the claim unit, and the answers (R59, R138 to R143). -/

namespace Sys2Proof.Machine

/-! ## The checks (R138) -/

theorem State.elementPhase_iff (s : State) (e : Fin 32) : s.elementPhase e = true ↔ s.PhaseAdmits e := by
  simp only [State.elementPhase, State.PhaseAdmits, Bool.and_eq_true, decide_eq_true_eq, State.profileInForce,
    State.phaseInForce, and_assoc]
  refine and_congr_right fun hrunning => ?_
  simp [hrunning, ClockState.started]

theorem ownerAllows_iff (owner : Owner) (side : Option Alliance) (action : ClaimAction) :
    ownerAllows owner side action = true ↔ OwnerAdmits owner side action := by
  cases owner <;> simp [ownerAllows, OwnerAdmits]

/-- R138: the first failing check names its reason. -/
theorem State.requestFault_iff (s : State) (n : Fin 12) (e : Fin 32) (action : ClaimAction) (why : ClaimReason) :
    s.requestFault n e action = some why ↔ s.RefusedFor n e action why := by
  rw [State.requestFault]
  by_cases hstop : (s.stations.get n).stopLatch = true
  case pos => cases why <;> simp [State.RefusedFor, hstop]
  by_cases hhalf : s.elementHalf e = s.stationHalf n
  case neg => cases why <;> simp [State.RefusedFor, hstop, hhalf]
  by_cases hpresent : (s.entries.get e).enabled = true ∧ (s.elements.get e).online ≠ .offline
  case neg =>
    have hoffline : (!(s.entries.get e).enabled || decide ((s.elements.get e).online = .offline)) = true := by
      simpa [or_iff_not_imp_left] using hpresent
    cases why <;> simp [State.RefusedFor, hstop, hhalf, hpresent, hoffline]
  by_cases hphase : s.PhaseAdmits e
  case neg => cases why <;> simp [State.RefusedFor, hstop, hhalf, hpresent, hphase, (s.elementPhase_iff e).not.mpr hphase]
  by_cases howner : OwnerAdmits (s.entries.get e).owner (s.stationEntry n).alliance action
  case neg =>
    cases why <;> simp [State.RefusedFor, hstop, hhalf, hpresent, hphase, (s.elementPhase_iff e).mpr hphase, howner,
      (ownerAllows_iff _ _ _).not.mpr howner]
  case pos =>
    cases why <;> simp [State.RefusedFor, hstop, hhalf, hpresent, hphase, (s.elementPhase_iff e).mpr hphase, howner,
      (ownerAllows_iff _ _ _).mpr howner]

theorem State.requestFault_none {s : State} {n : Fin 12} {e : Fin 32} {action : ClaimAction}
    (h : ∀ why, ¬ s.RefusedFor n e action why) : s.requestFault n e action = none :=
  Option.eq_none_iff_forall_ne_some.mpr fun why hwhy => h why ((s.requestFault_iff n e action why).mp hwhy)

theorem State.elementPhase_congr {s t : State} (hsplit : t.split = s.split) (htables : t.tables = s.tables)
    (hclocks : t.clocks = s.clocks) (hentries : t.entries = s.entries) : t.elementPhase = s.elementPhase := by
  obtain ⟨-, -, hhalf, -, hactive, -⟩ := State.tables_congr hsplit htables
  funext e
  rw [State.elementPhase, State.elementPhase, State.profileInForce, State.profileInForce, State.phaseInForce,
    State.phaseInForce, hhalf, hactive, hclocks, hentries]

theorem State.requestFault_congr {s t : State} (hsplit : t.split = s.split) (htables : t.tables = s.tables)
    (hclocks : t.clocks = s.clocks) (hentries : t.entries = s.entries) (helements : t.elements = s.elements)
    (hstop : ∀ n, (t.stations.get n).stopLatch = (s.stations.get n).stopLatch) : t.requestFault = s.requestFault := by
  obtain ⟨-, hstation, helement, -, -, -, -, hentry⟩ := State.tables_congr hsplit htables
  funext n e action
  rw [State.requestFault, State.requestFault, State.elementPhase_congr hsplit htables hclocks hentries, hstop, hstation,
    helement, hentry, hentries, helements]

/-! ## The request in its frame (R57 to R59) -/

@[simp] theorem State.driven_keeps (s : State) (n : Fin 12) (f : ControlFrame) :
    (s.driven n f).tables = s.tables ∧ (s.driven n f).clocks = s.clocks ∧ (s.driven n f).split = s.split ∧
    (s.driven n f).lines = s.lines ∧ (s.driven n f).served = s.served ∧ (s.driven n f).console = s.console ∧
    (s.driven n f).radio = s.radio ∧ (s.driven n f).links = s.links ∧ (s.driven n f).entries = s.entries ∧
    (s.driven n f).outputs = s.outputs ∧ (s.driven n f).bus = s.bus ∧ (s.driven n f).elements = s.elements ∧
    (s.driven n f).claims = s.claims ∧ (s.driven n f).sensors = s.sensors ∧ (s.driven n f).scores = s.scores ∧
    (s.driven n f).trunk = s.trunk ∧ (s.driven n f).pending = s.pending := by
  simp only [State.driven]
  and_intros <;> split <;> simp

/-- The drive part of a frame leaves every station's stop as it was. -/
theorem State.driven_stopLatch (s : State) (n m : Fin 12) (f : ControlFrame) :
    ((s.driven n f).stations.get m).stopLatch = (s.stations.get m).stopLatch := by
  simp only [State.driven, State.drive]
  repeat' split
  all_goals simp [Tab.get_modify, apply_ite StationAdmission.stopLatch]

/-- R56 to R59: the state in which the claim unit takes the request of a station's CONTROL frame. -/
def State.asked (s : State) (n : Fin 12) (f : ControlFrame) : State := (s.takeFrame n).driven n f

@[simp] theorem State.asked_keeps (s : State) (n : Fin 12) (f : ControlFrame) :
    (s.asked n f).tables = s.tables ∧ (s.asked n f).clocks = s.clocks ∧ (s.asked n f).split = s.split ∧
    (s.asked n f).lines = s.lines ∧ (s.asked n f).served = n ∧ (s.asked n f).console = (s.takeFrame n).console ∧
    (s.asked n f).radio = s.radio ∧ (s.asked n f).links = s.links ∧ (s.asked n f).entries = s.entries ∧
    (s.asked n f).outputs = s.outputs ∧ (s.asked n f).bus = s.bus ∧ (s.asked n f).elements = s.elements ∧
    (s.asked n f).claims = s.claims ∧ (s.asked n f).sensors = s.sensors ∧ (s.asked n f).scores = s.scores ∧
    (s.asked n f).trunk = s.trunk ∧ (s.asked n f).pending = s.pending := by
  simp only [State.asked, State.driven_keeps, State.takeFrame_keeps, and_true, true_and]
  rfl

@[simp] theorem State.asked_requestFault (s : State) (n : Fin 12) (f : ControlFrame) :
    (s.asked n f).requestFault = s.requestFault := by
  refine State.requestFault_congr ?_ ?_ ?_ ?_ ?_ fun m => ?stop
  case stop =>
    rw [State.asked, State.driven_stopLatch]
    simp
  all_goals simp

/-- R59, R139: the state after an element request is decided and its answer handed to the station's line. -/
def State.answered (s : State) (n : Fin 12) (r : ElementRequest) : State :=
  (s.request n r).1.tell n r.element (s.request n r).2

theorem exec_elementRequest {s : State} {n : Fin 12} {f : ControlFrame} {r : ElementRequest} (h : s.Requests n f r) :
    exec .controlFrame s = .next ((s.asked n f).answered n r) := by
  obtain ⟨hn, hf, hr, hteam⟩ := h
  exact (exec_controlFrame hn hf).trans (congrArg Host.Outcome.next (State.control_requests (by simpa using hteam) hr))

/-! ## Requests at their owner (R138) -/

theorem exists_num8 {k : Nat} {b : Byte} (hb : b.toNat < k) : ∃ i : Fin k, b = num8 i.val := ⟨⟨b.toNat, hb⟩, by simp [num8]⟩

/-- R138, check 1: an element or an output that is not there. -/
theorem State.request_invalid {r : ElementRequest} (hr : 32 ≤ r.element.toNat ∨ (r.action = .actuate ∧ 2 ≤ r.output.toNat))
    (s : State) (n : Fin 12) : s.request n r = (s, .denied .invalid) := by
  rcases hr with he | ⟨ha, hk⟩
  · simp only [State.request, decodeIndex_none he]
  · simp only [State.request, ha, decodeIndex_none hk]
    split <;> rfl

/-- R138, checks 2 to 6: a request that fails one of them changes nothing. -/
theorem State.request_refused {s : State} {n : Fin 12} {e : Fin 32} {r : ElementRequest} {why : ClaimReason}
    (he : r.element = num8 e.val) (hk : r.action = .actuate → r.output.toNat < 2)
    (hwhy : s.requestFault n e r.action = some why) : s.request n r = (s, .denied why) := by
  simp only [State.request, he, decodeIndex_fin32]
  cases ha : r.action with
  | actuate =>
    obtain ⟨k, hk⟩ := exists_num8 (hk ha)
    simp only [hk, decodeIndex_fin2, ha ▸ hwhy]
  | claim => simp only [ha ▸ hwhy]
  | release => simp only [ha ▸ hwhy]

theorem State.request_claim {s : State} {n : Fin 12} {e : Fin 32} {r : ElementRequest} (he : r.element = num8 e.val)
    (ha : r.action = .claim) (hok : s.requestFault n e r.action = none) : s.request n r = s.doClaim n e := by
  simp only [State.request, he, decodeIndex_fin32, ha, ha ▸ hok]

theorem State.request_release {s : State} {n : Fin 12} {e : Fin 32} {r : ElementRequest} (he : r.element = num8 e.val)
    (ha : r.action = .release) (hok : s.requestFault n e r.action = none) : s.request n r = s.doRelease n e := by
  simp only [State.request, he, decodeIndex_fin32, ha, ha ▸ hok]

theorem State.request_actuate {s : State} {n : Fin 12} {e : Fin 32} {k : Fin 2} {r : ElementRequest}
    (he : r.element = num8 e.val) (ha : r.action = .actuate) (hk : r.output = num8 k.val)
    (hok : s.requestFault n e r.action = none) : s.request n r = s.doActuate n e k r.value := by
  simp only [State.request, he, decodeIndex_fin32, ha, hk, decodeIndex_fin2, ha ▸ hok]

/-! ## CLAIM, RELEASE and ACTUATE (R140 to R143) -/

/-- R140: how a checked CLAIM is answered, and the claims after it. -/
theorem State.doClaim_decides (s : State) (n : Fin 12) (e : Fin 32) :
    let c := s.claims.get e
    let limit := (s.entries.get e).holdLimit
    (c.holder = none → (s.doClaim n e).2 = .granted ∧ (s.doClaim n e).1.claims = s.claims.set e
      { c with holder := some n, timer := if limit = 0 then none else some limit, accumulator := 0 }) ∧
    (c.holder = some n → (s.doClaim n e).2 = .held ∧ (s.doClaim n e).1.claims = s.claims) ∧
    ∀ m, c.holder = some m → m ≠ n →
      (∀ before after, c.waiters = before ++ n :: after → n ∉ before →
        (s.doClaim n e).2 = .queued (before.length + 1) ∧ (s.doClaim n e).1.claims = s.claims) ∧
      (n ∉ c.waiters → c.waiters.length < 4 → (s.doClaim n e).2 = .queued (c.waiters.length + 1)
        ∧ (s.doClaim n e).1.claims = s.claims.set e { c with waiters := c.waiters ++ [n] }) ∧
      (n ∉ c.waiters → 4 ≤ c.waiters.length → (s.doClaim n e).2 = .denied .full ∧ (s.doClaim n e).1.claims = s.claims) := by
  refine ⟨fun hc => ?free, fun hc => ?held, fun m hc hm =>
    ⟨fun before after hw hb => ?waiting, fun hw hl => ?joins, fun hw hl => ?full⟩⟩
  case free =>
    have hgrant : s.doClaim n e = (s.grant e n (s.claims.get e).waiters, .granted) := by simp only [State.doClaim, hc]
    rw [hgrant]
    exact ⟨rfl, rfl⟩
  case held => simp [State.doClaim, hc]
  case waiting =>
    have hmem : n ∈ (s.claims.get e).waiters := by simp [hw]
    have hplace : (s.claims.get e).waiters.idxOf n = before.length := by
      rw [hw, List.idxOf_append_of_notMem hb, List.idxOf_cons_self, Nat.add_zero]
    simp [State.doClaim, hc, hm, hmem, hplace]
  case joins =>
    have hjoin : s.doClaim n e = (s.setClaim e fun c => { c with waiters := c.waiters ++ [n] },
        .queued ((s.claims.get e).waiters.length + 1)) := by
      simp only [State.doClaim, hc, hm, hw, Nat.not_le.mpr hl, if_false]
    rw [hjoin]
    exact ⟨rfl, rfl⟩
  case full => simp [State.doClaim, hc, hm, hw, hl]

theorem State.doClaim_keeps (s : State) (n : Fin 12) (e : Fin 32) :
    (s.doClaim n e).1.console = s.console ∧ (s.doClaim n e).1.outputs = s.outputs := by
  simp only [State.doClaim]
  and_intros <;> repeat' split
  all_goals simp

/-- R141: how a checked RELEASE is answered, and the state after it. -/
theorem State.doRelease_decides (s : State) (n : Fin 12) (e : Fin 32) :
    let c := s.claims.get e
    (c.holder = some n → s.doRelease n e = (s.promote e, .released .none)) ∧
    (c.holder ≠ some n → n ∈ c.waiters → s.doRelease n e =
      (s.setClaim e fun c => { c with waiters := c.waiters.filter (· ≠ n) }, .released .none)) ∧
    (c.holder ≠ some n → n ∉ c.waiters → s.doRelease n e = (s, .denied .notHolder)) :=
  ⟨fun hc => if_pos hc, fun hc hw => (if_neg hc).trans (if_pos hw), fun hc hw => (if_neg hc).trans (if_neg hw)⟩

theorem State.doRelease_outputs (s : State) (n : Fin 12) (e : Fin 32) : (s.doRelease n e).1.outputs = s.outputs := by
  simp only [State.doRelease]
  repeat' split
  all_goals simp

/-- R143: the head waiter promoted is told so. -/
theorem State.promote_console {s : State} {e : Fin 32} {w : Fin 12} {rest : List (Fin 12)}
    (hw : (s.claims.get e).waiters = w :: rest) :
    (s.promote e).console = s.console.modify w (·.pushReply (.elementReply (num8 e.val) .granted)) := by
  simp only [State.promote, hw]
  rfl

theorem State.promote_console_get {s : State} {e : Fin 32} {m : Fin 12} (hm : (s.claims.get e).waiters.head? ≠ some m) :
    (s.promote e).console.get m = s.console.get m := by
  cases hw : (s.claims.get e).waiters with
  | nil => simp [State.promote, hw]
  | cons w rest =>
    rw [State.promote_console hw]
    exact Tab.get_modify_ne _ _ fun heq => hm (by rw [hw, heq]; rfl)

/-- R142: how a checked ACTUATE is answered, and the state after it. -/
theorem State.doActuate_decides (s : State) (n : Fin 12) (e : Fin 32) (k : Fin 2) (v : Byte) :
    ((s.entries.get e).owner = .shared → (s.claims.get e).holder ≠ some n → s.doActuate n e k v = (s, .denied .notHolder)) ∧
    (((s.entries.get e).owner = .shared → (s.claims.get e).holder = some n) →
      s.doActuate n e k v = (s.applyOutput e k v, .done)) :=
  ⟨fun howner hc => if_pos ⟨howner, hc⟩, fun hc => if_neg fun hdenied => hdenied.2 (hc hdenied.1)⟩

theorem State.doActuate_keeps (s : State) (n : Fin 12) (e : Fin 32) (k : Fin 2) (v : Byte) :
    (s.doActuate n e k v).1.console = s.console ∧ (s.doActuate n e k v).1.claims = s.claims := by
  rw [State.doActuate]
  split <;> exact ⟨rfl, rfl⟩

/-- R122: what applying a value does to the mode state. -/
theorem OutputState.apply_appliedTo (c : OutputConfig) (v : Byte) (x : OutputState) : AppliedTo c v x (x.apply c v) := by
  cases x with
  | level held => rfl
  | pulse remaining => exact (apply_ite OutputState.pulse _ _ _).symm
  | toggle on => exact (apply_ite OutputState.toggle _ _ _).symm
  | blink position => exact (apply_ite OutputState.blink _ _ _).symm

theorem State.applyOutput_applied (s : State) (e : Fin 32) (k : Fin 2) (v : Byte) :
    AppliedTo ((s.entries.get e).outputs.get k) v ((s.outputs.get e).get k) (((s.applyOutput e k v).outputs.get e).get k) ∧
      ∀ x y, (x ≠ e ∨ y ≠ k) → ((s.applyOutput e k v).outputs.get x).get y = (s.outputs.get x).get y := by
  refine ⟨?_, fun x y hxy => ?_⟩
  · simp only [State.applyOutput_outputs, Tab.get_modify_self]
    exact OutputState.apply_appliedTo _ _ _
  · by_cases hx : x = e
    · subst hx
      rw [State.applyOutput_outputs, Tab.get_modify_self]
      exact Tab.get_modify_ne _ _ (hxy.resolve_left (by simp)).symm
    · rw [State.applyOutput_outputs, Tab.get_modify_ne _ _ (Ne.symm hx)]

/-! ## Answers on the lines (R59, R139, R143) -/

/-- R143: a request itself speaks to a line only when it releases an element with a waiter. -/
theorem State.request_console {s : State} {n m : Fin 12} {r : ElementRequest}
    (hm : ∀ e : Fin 32, r.action = .release → r.element = num8 e.val → (s.claims.get e).holder = some n →
      (s.claims.get e).waiters.head? ≠ some m) : (s.request n r).1.console.get m = s.console.get m := by
  by_cases hr : 32 ≤ r.element.toNat ∨ (r.action = .actuate ∧ 2 ≤ r.output.toNat)
  case pos => rw [State.request_invalid hr]
  obtain ⟨helement, houtput⟩ := not_or.mp hr
  obtain ⟨e, he⟩ := exists_num8 (Nat.not_le.mp helement)
  have hk : r.action = .actuate → r.output.toNat < 2 := fun ha => Nat.not_le.mp fun hk => houtput ⟨ha, hk⟩
  cases hfault : s.requestFault n e r.action with
  | some why => rw [State.request_refused he hk hfault]
  | none =>
    cases ha : r.action with
    | claim => rw [State.request_claim he ha hfault, (s.doClaim_keeps n e).1]
    | actuate =>
      obtain ⟨k, hk⟩ := exists_num8 (hk ha)
      rw [State.request_actuate he ha hk hfault, (s.doActuate_keeps n e k r.value).1]
    | release =>
      obtain ⟨holder, waiter, stranger⟩ := s.doRelease_decides n e
      rw [State.request_release he ha hfault]
      by_cases hc : (s.claims.get e).holder = some n
      · rw [holder hc]
        exact State.promote_console_get (hm e ha he hc)
      · by_cases hw : n ∈ (s.claims.get e).waiters
        · rw [waiter hc hw, State.setClaim_console]
        · rw [stranger hc hw]

/-- R59: the answer is placed on the line of the station that asked. -/
theorem State.answered_placed {s : State} {n : Fin 12} {f : ControlFrame} {r : ElementRequest}
    (hn : ∀ e : Fin 32, r.action = .release → (s.claims.get e).holder = some n → n ∉ (s.claims.get e).waiters) :
    ReplyPlaced (s.console.get n) (((s.asked n f).answered n r).console.get n)
      (.elementReply r.element ((s.asked n f).request n r).2) := by
  have hquiet : ((s.asked n f).request n r).1.console.get n = (s.takeFrame n).console.get n := by
    rw [State.request_console fun e ha _ hc hhead => hn e ha (by simpa using hc) (List.mem_of_head? (by simpa using hhead))]
    simp
  have hconsole : ((s.asked n f).answered n r).console.get n =
      ((s.takeFrame n).console.get n).pushReply (.elementReply r.element ((s.asked n f).request n r).2) := by
    rw [State.answered, State.tell_console, Tab.get_modify_self, hquiet]
  rw [hconsole]
  exact (ConsoleLine.pushReply_placed _ _).of_sends (s.takeFrame_sends n)

theorem State.answered_console_ne (s : State) {n m : Fin 12} (hm : m ≠ n) (r : ElementRequest) :
    (s.answered n r).console.get m = (s.request n r).1.console.get m :=
  Tab.get_modify_ne _ _ hm.symm

theorem State.asked_console_ne (s : State) {n m : Fin 12} (hm : m ≠ n) (f : ControlFrame) :
    (s.asked n f).console.get m = s.console.get m := by
  rw [← s.takeFrame_console_ne hm]
  simp

theorem State.answered_keeps (s : State) (n : Fin 12) (r : ElementRequest) :
    (s.answered n r).claims = (s.request n r).1.claims ∧ (s.answered n r).outputs = (s.request n r).1.outputs ∧
      (s.answered n r).slots = s.slots ∧ (s.answered n r).stations = s.stations ∧ (s.answered n r).scores = s.scores := by
  simp [State.answered]

theorem State.answered_frame (s : State) (n : Fin 12) (f : ControlFrame) (r : ElementRequest) :
    (s.asked n f).answered n r = { s with
      served := n
      slots := ((s.asked n f).answered n r).slots
      stations := ((s.asked n f).answered n r).stations
      console := ((s.asked n f).answered n r).console
      claims := ((s.asked n f).answered n r).claims
      outputs := ((s.asked n f).answered n r).outputs } := by
  apply State.eq_of_blocks <;> simp [State.answered]

end Sys2Proof.Machine
end

section
/-! PROOFS. Element requests settled clause by clause (R59, R137 to R143). -/

namespace Sys2Proof.Machine

/-- R138: a station that is clear, in the half of a shared element that is enabled, not OFFLINE and admitted by the phase, passes
every check. -/
theorem State.requestFault_shared {s : State} {n : Fin 12} {e : Fin 32} (hstop : (s.stations.get n).stopLatch = false)
    (hhalf : s.elementHalf e = s.stationHalf n) (henabled : (s.entries.get e).enabled = true)
    (honline : (s.elements.get e).online ≠ .offline) (hphase : s.elementPhase e = true)
    (howner : (s.entries.get e).owner = .shared) (action : ClaimAction) : s.requestFault n e action = none := by
  simp [State.requestFault, hstop, hhalf, henabled, honline, hphase, howner, ownerAllows]

/-- R140: what a checked CLAIM does, in the state before its frame was taken. -/
theorem State.answered_claim {s : State} {n : Fin 12} {e : Fin 32} {f : ControlFrame} {r : ElementRequest}
    (he : r.element = num8 e.val) (ha : r.action = .claim) (hok : s.requestFault n e r.action = none) :
    let t := (s.asked n f).answered n r
    let answer := ((s.asked n f).request n r).2
    let c := s.claims.get e
    let limit := (s.entries.get e).holdLimit
    t.outputs = s.outputs ∧
    (c.holder = none → answer = .granted ∧ t.claims = s.claims.set e
      { c with holder := some n, timer := if limit = 0 then none else some limit, accumulator := 0 }) ∧
    (c.holder = some n → answer = .held ∧ t.claims = s.claims) ∧
    ∀ m, c.holder = some m → m ≠ n →
      (∀ before after, c.waiters = before ++ n :: after → n ∉ before →
        answer = .queued (before.length + 1) ∧ t.claims = s.claims) ∧
      (n ∉ c.waiters → c.waiters.length < 4 → answer = .queued (c.waiters.length + 1)
        ∧ t.claims = s.claims.set e { c with waiters := c.waiters ++ [n] }) ∧
      (n ∉ c.waiters → 4 ≤ c.waiters.length → answer = .denied .full ∧ t.claims = s.claims) := by
  obtain ⟨hclaims, houtputs, -⟩ := (s.asked n f).answered_keeps n r
  have hdecides := (s.asked n f).doClaim_decides n e
  simp only [State.asked_keeps] at hdecides
  simp only [hclaims, houtputs, State.request_claim he ha (s := s.asked n f) (by simpa using hok)]
  exact ⟨by simp [State.doClaim_keeps], hdecides⟩

/-- R141, R143: what a checked RELEASE does, in the state before its frame was taken. -/
theorem State.answered_release {s : State} {n : Fin 12} {e : Fin 32} {f : ControlFrame} {r : ElementRequest}
    (he : r.element = num8 e.val) (ha : r.action = .release) (hok : s.requestFault n e r.action = none) :
    let t := (s.asked n f).answered n r
    let answer := ((s.asked n f).request n r).2
    let c := s.claims.get e
    t.outputs = s.outputs ∧
    (c.holder = some n → answer = .released .none ∧ t.claims = s.claims.set e (c.promoted (s.entries.get e).holdLimit)) ∧
    (c.holder ≠ some n → n ∈ c.waiters → answer = .released .none
      ∧ t.claims = s.claims.set e { c with waiters := c.waiters.filter (· ≠ n) }) ∧
    (c.holder ≠ some n → n ∉ c.waiters → answer = .denied .notHolder ∧ t.claims = s.claims) := by
  obtain ⟨hclaims, houtputs, -⟩ := (s.asked n f).answered_keeps n r
  obtain ⟨holder, waiter, stranger⟩ := (s.asked n f).doRelease_decides n e
  simp only [State.asked_keeps] at holder waiter stranger
  simp only [hclaims, houtputs, State.request_release he ha (s := s.asked n f) (by simpa using hok)]
  refine ⟨by simp [State.doRelease_outputs], fun hc => ?_, fun hc hw => ?_, fun hc hw => ?_⟩
  · rw [holder hc, State.promote_claims]
    simp
  · rw [waiter hc hw]
    simp [Tab.modify]
  · rw [stranger hc hw]
    simp

/-- R143: the waiter that a RELEASE promotes is told GRANTED on its own line. -/
theorem State.answered_promotes {s : State} {n w : Fin 12} {e : Fin 32} {rest : List (Fin 12)} {f : ControlFrame}
    {r : ElementRequest} (he : r.element = num8 e.val) (ha : r.action = .release) (hok : s.requestFault n e r.action = none)
    (hc : (s.claims.get e).holder = some n) (hw : (s.claims.get e).waiters = w :: rest) (hne : w ≠ n) :
    ReplyPlaced (s.console.get w) (((s.asked n f).answered n r).console.get w) (.elementReply r.element .granted) := by
  obtain ⟨holder, -⟩ := (s.asked n f).doRelease_decides n e
  have hconsole : ((s.asked n f).answered n r).console.get w =
      (s.console.get w).pushReply (.elementReply r.element .granted) := by
    rw [State.answered_console_ne _ hne, State.request_release he ha (by simpa using hok), holder (by simpa using hc),
      State.promote_console (w := w) (rest := rest) (by simpa using hw), Tab.get_modify_self, s.asked_console_ne hne, he]
  rw [hconsole]
  exact ConsoleLine.pushReply_placed _ _

/-- R142: what a checked ACTUATE does, in the state before its frame was taken. -/
theorem State.answered_actuate {s : State} {n : Fin 12} {e : Fin 32} {k : Fin 2} {f : ControlFrame} {r : ElementRequest}
    (he : r.element = num8 e.val) (ha : r.action = .actuate) (hk : r.output = num8 k.val)
    (hok : s.requestFault n e r.action = none) :
    let t := (s.asked n f).answered n r
    let answer := ((s.asked n f).request n r).2
    t.claims = s.claims ∧
    ((s.entries.get e).owner = .shared → (s.claims.get e).holder ≠ some n → answer = .denied .notHolder ∧ t.outputs = s.outputs) ∧
    (((s.entries.get e).owner = .shared → (s.claims.get e).holder = some n) → answer = .done
      ∧ AppliedTo ((s.entries.get e).outputs.get k) r.value ((s.outputs.get e).get k) ((t.outputs.get e).get k)
      ∧ ∀ x y, (x ≠ e ∨ y ≠ k) → (t.outputs.get x).get y = (s.outputs.get x).get y) := by
  obtain ⟨hclaims, houtputs, -⟩ := (s.asked n f).answered_keeps n r
  obtain ⟨stranger, holder⟩ := (s.asked n f).doActuate_decides n e k r.value
  have happlied := (s.asked n f).applyOutput_applied e k r.value
  simp only [State.asked_keeps] at stranger holder happlied
  simp only [hclaims, houtputs, State.request_actuate he ha hk (s := s.asked n f) (by simpa using hok)]
  refine ⟨by simp [State.doActuate_keeps], fun howner hc => ?_, fun hc => ?_⟩
  · rw [stranger howner hc]
    simp
  · rw [holder hc]
    exact ⟨rfl, happlied⟩

/-- R138: a request turned away leaves claims and outputs as they were. -/
theorem State.answered_denied {s : State} {n : Fin 12} {f : ControlFrame} {r : ElementRequest} {why : ClaimReason}
    (h : (s.asked n f).request n r = (s.asked n f, .denied why)) :
    ((s.asked n f).request n r).2 = .denied why ∧ ((s.asked n f).answered n r).claims = s.claims ∧
      ((s.asked n f).answered n r).outputs = s.outputs := by
  obtain ⟨hclaims, houtputs, -⟩ := (s.asked n f).answered_keeps n r
  rw [hclaims, houtputs, h]
  simp

/-- Settles O36: the frame is taken, the checks of R138 are made in order, and a request that passes them is decided. -/
theorem claimsAreDecided : Obligations.ClaimsAreDecided := by
  refine ⟨fun s n e f output value hn hf hr hteam hslot hstop hhalf henabled honline hphase howner hroom =>
      ⟨(s.asked n f).answered n ⟨num8 e.val, .claim, output, value⟩,
        ((s.asked n f).request n ⟨num8 e.val, .claim, output, value⟩).2, exec_elementRequest ⟨hn, hf, hr, hteam⟩, ?queue, ?decided⟩,
    fun s n f r h hw => ⟨(s.asked n f).answered n r, ((s.asked n f).request n r).2, exec_elementRequest h,
      State.answered_placed fun e _ => hw e, s.answered_frame n f r, fun m hm hhead => ?others,
      fun hr => State.answered_denied (State.request_invalid hr _ _), fun e he hk =>
        ⟨fun why hwhy => State.answered_denied (State.request_refused he hk ?refused), fun hok =>
          ⟨fun ha => State.answered_claim he ha (State.requestFault_none hok), fun ha => ?release, fun ha => ?actuate⟩⟩⟩⟩
  case queue => exact (State.answered_placed fun e ha => absurd ha (by simp)).queue_of_room hroom
  case decided =>
    have hok := State.requestFault_shared hstop hhalf henabled honline hphase howner .claim
    obtain ⟨-, hfree, hheld, hother⟩ := State.answered_claim (f := f) (r := ⟨num8 e.val, .claim, output, value⟩) rfl rfl hok
    obtain ⟨-, -, hslots, hstations, hscores⟩ := (s.asked n f).answered_keeps n ⟨num8 e.val, .claim, output, value⟩
    have hasked : s.asked n f = (s.takeFrame n).setStation n fun x => { x with noSlot := bump x.noSlot } :=
      State.driven_unfound (by simpa using hslot)
    refine ⟨hfree, hheld, fun m hc hm hw => ?waits, ?noSlot, ?slots, ?scores⟩
    case waits =>
      obtain ⟨-, hjoins, hfull⟩ := hother m hc hm
      exact ⟨hjoins hw, hfull hw⟩
    case noSlot =>
      rw [hstations, hasked]
      simp
    case slots =>
      rw [hslots, hasked]
      simp
    case scores =>
      rw [hscores]
      simp
  case others =>
    rw [State.answered_console_ne _ hm, State.request_console fun e _ he _ => by simpa using hhead e he, s.asked_console_ne hm]
  case refused => simpa using (s.requestFault_iff n e r.action why).mpr hwhy
  case release =>
    have hfault := State.requestFault_none hok
    obtain ⟨houtputs, holder, waiter, stranger⟩ := State.answered_release (f := f) he ha hfault
    refine ⟨houtputs, fun hc => ?_, waiter, stranger⟩
    obtain ⟨hanswer, hclaims⟩ := holder hc
    exact ⟨hanswer, hclaims, fun w rest hwaiters =>
      State.answered_promotes he ha hfault hc hwaiters fun hwn => hw e hc (by simp [hwaiters, hwn])⟩
  case actuate =>
    have hfault := State.requestFault_none hok
    obtain ⟨k, hk⟩ := exists_num8 (hk ha)
    obtain ⟨hclaims, stranger, -⟩ := State.answered_actuate (f := f) he ha hk hfault
    refine ⟨hclaims, stranger, fun hc j hj => ?_⟩
    obtain ⟨-, -, holder⟩ := State.answered_actuate (f := f) he ha hj hfault
    exact holder hc

end Sys2Proof.Machine
end

section
/-! PROOFS. Slot windows and their DOWNLINKs (R48, R50, R72 to R74, R103, R105). -/

namespace Sys2Proof.Machine

/-! ## Windows opened (R103, R105) -/

/-- R103: the state in which the window of a slot has begun with the transceiver at a level of its ready input, with no DOWNLINK
handed over yet. -/
def State.windowOpened (s : State) (ready : Bool) (i : Fin 24) (rest : List (Fin 24)) : State := { s with
  radio := { s.radio with
    ready := ready, part := .window i false false, toCome := rest, position := s.radio.windows.length - rest.length } }

theorem CyclePart.awaitsWindow_iff (p : CyclePart) : p.awaitsWindow = true ↔ p = .beacon ∨ p = .between := by
  cases p <;> simp [CyclePart.awaitsWindow]

theorem slotWindowBegin_eq {s : State} {i : Fin 24} {rest : List (Fin 24)} (hp : s.radio.part = .beacon ∨ s.radio.part = .between)
    (hi : s.radio.toCome = i :: rest) (ready : Bool) :
    slotWindowBegin ready s = if ready then (s.windowOpened ready i rest).sendDownlink i
      else (s.windowOpened ready i rest).countRadio fun c => { c with notReady := bump c.notReady } := by
  rw [slotWindowBegin, if_pos ⟨(CyclePart.awaitsWindow_iff _).mpr hp, by simp [hi]⟩]
  simp only [State.openWindow, State.setRadio, hi, State.windowOpened]

/-! ## DOWNLINKs composed (R50, R72 to R74) -/

/-- R48: a slot whose half is stopped is not ENABLED. -/
theorem State.permission_fieldStop {s : State} {i : Fin 24} (hf : (s.clocks.get (s.slotHalf i)).fieldStop = true) :
    (s.permission i).enabled = false := by
  simp only [State.permission, hf, if_true]
  split
  · rfl
  · split <;> rfl

theorem State.moves_disabled {s : State} {i : Fin 24} (hp : (s.permission i).enabled = false) : s.moves i = false := by
  rw [State.moves, hp, Bool.false_and]

theorem State.moves_enabled {s : State} {i : Fin 24} (hp : s.permission i = .none) (hd : s.driveAdmitted i = true) :
    s.moves i = true := by
  rw [State.moves, hp, hd]
  rfl

/-- R72: a DOWNLINK that carries no motion holds zeros, which become the last-sent values. -/
theorem State.sendDownlink_still {s : State} {i : Fin 24} (hp : (s.permission i).enabled = false) :
    s.sendDownlink i = { s with
      slots := s.slots.set i { s.slots.get i with lastSent := .fill 0 }
      radio := { s.radio with out := s.downlink i false (.fill 0) 0 } } := by
  simp only [State.sendDownlink, State.stage2, State.downlinkButtons, State.moves_disabled hp, hp, Bool.false_eq_true, if_false]
  rfl

/-- R73, R74: a DOWNLINK that carries motion holds the slewed values, which become the last-sent values, and the buttons. -/
theorem State.sendDownlink_moving {s : State} {i : Fin 24} (hp : s.permission i = .none) (hd : s.driveAdmitted i = true) :
    s.sendDownlink i = { s with
      slots := s.slots.set i { s.slots.get i with lastSent := s.stage2 i true }
      radio := { s.radio with out := s.downlink i true (s.stage2 i true) (s.slots.get i).buttons } } := by
  simp only [State.sendDownlink, State.downlinkButtons, State.moves_enabled hp hd, hp, if_true]
  rfl

theorem State.stage2_moving (s : State) (i : Fin 24) (k : Fin 6) : (s.stage2 i true).get k =
    (s.slots.get i).lastSent.get k + max (-((s.slotEntry i).slew : Int))
      (min ((s.slots.get i).targets.get k - (s.slots.get i).lastSent.get k) ((s.slotEntry i).slew : Int)) :=
  Tab.get_build _ k

/-- Settles O44: the window is opened, and the DOWNLINK it sends carries motion only where the permission lets it. -/
theorem downlinksFollowThePermission : Obligations.DownlinksFollowThePermission := by
  refine ⟨fun s i rest hp hi hf => ?stopped, fun s i rest hp hi => ?notReady, fun s i rest hp hi hpermission hd => ?moving⟩
  case stopped =>
    have hstill : (s.windowOpened true i rest).sendDownlink i = _ := State.sendDownlink_still (State.permission_fieldStop hf)
    exact ⟨_, congrArg Host.Outcome.next ((slotWindowBegin_eq hp hi true).trans hstill), rfl, rfl, rfl, rfl, rfl⟩
  case notReady => exact ⟨_, congrArg Host.Outcome.next (slotWindowBegin_eq hp hi false), rfl, rfl, rfl, rfl, rfl⟩
  case moving =>
    have hmoving : (s.windowOpened true i rest).sendDownlink i = _ := State.sendDownlink_moving hpermission hd
    refine ⟨_, congrArg Host.Outcome.next ((slotWindowBegin_eq hp hi true).trans hmoving), fun k => ?values, ?frame, ?targets,
      fun j hj => Tab.get_set_ne _ _ hj.symm, rfl⟩
    case values =>
      rw [Tab.get_set_self]
      exact s.stage2_moving i k
    case frame =>
      rw [Tab.get_set_self]
      rfl
    case targets =>
      rw [Tab.get_set_self]
      rfl

end Sys2Proof.Machine
end

section
/-! PROOFS. Breaks of the console lines, and frames sent and TELEMETRY placed on them (R53, R85, R92, R93, R147). -/

namespace Sys2Proof.Machine

/-! ## Breaks ended and frames sent (R85, R92) -/

theorem ConsoleLine.sent_cons {l : ConsoleLine} {f : ConsoleOut} {rest : List ConsoleOut} (h : l.queue = f :: rest) :
    l.sent = { l with queue := rest, wire := (rest.head?.map ConsoleOut.bytes).getD [] } := by
  rw [ConsoleLine.sent, h, List.tail_cons]
  cases rest <;> rfl

theorem breakEnd_eq {s : State} {n : Fin 12} (h : (s.console.get n).breakPresent = true) :
    breakEnd n s = { s with
      console := s.console.set n { s.console.get n with breakPresent := false, gapRaised := false } } := by
  simp only [breakEnd, State.setConsole, Tab.modify, h, if_true]

/-- Settles O41: each event changes the one line it reaches. -/
theorem breakEndAndFrameSent : Obligations.BreakEndAndFrameSent := by
  refine ⟨fun s n h => congrArg Host.Outcome.next (breakEnd_eq h), fun s n f rest h => congrArg Host.Outcome.next ?sent⟩
  case sent => simp only [consoleFrameSent, State.setConsole, Tab.modify, ConsoleLine.sent_cons h]

/-! ## Breaks begun (R53, R85, R147) -/

/-- What a line knows of breaks: whether one is present, and how many have begun. -/
def ConsoleLine.breaks (l : ConsoleLine) : Bool × Nat := (l.breakPresent, l.counters.breaks)

theorem ConsoleLine.pushReply_breaks (l : ConsoleLine) (f : ConsoleOut) : (l.pushReply f).breaks = l.breaks := by
  rw [ConsoleLine.pushReply]
  split
  · rfl
  · split <;> rfl

theorem ConsoleLine.startBreak_breaks (l : ConsoleLine) : l.startBreak.breaks = (true, bump l.counters.breaks) := by
  rw [ConsoleLine.startBreak, ConsoleLine.breakBoundary]
  split
  · split <;> rfl
  · rfl

/-- An answer of the claim unit leaves the breaks of every line as they were. -/
theorem State.tell_breaks (s : State) (m : Fin 12) (e : Byte) (a : ClaimAnswer) (n : Fin 12) :
    ((s.tell m e a).console.get n).breaks = (s.console.get n).breaks := by
  simp only [State.tell, State.setConsole_console, Tab.get_modify]
  split
  · exact ConsoleLine.pushReply_breaks _ _
  · rfl

theorem State.promote_breaks (s : State) (e : Fin 32) (n : Fin 12) :
    ((s.promote e).console.get n).breaks = (s.console.get n).breaks := by
  rw [State.promote]
  split
  · rfl
  · exact State.tell_breaks _ _ _ _ n

theorem State.dropStation_breaks (s : State) (m : Fin 12) (e : Fin 32) (n : Fin 12) :
    ((s.dropStation m e).console.get n).breaks = (s.console.get n).breaks := by
  simp only [State.dropStation]
  split
  · exact (State.promote_breaks _ e n).trans (s.tell_breaks _ _ _ n)
  · split
    · exact State.tell_breaks _ _ _ _ n
    · rfl

theorem State.dropClaims_breaks (s : State) (m n : Fin 12) :
    ((s.dropClaims m).console.get n).breaks = (s.console.get n).breaks :=
  foldl_keeps (fun t => (t.console.get n).breaks) _ (fun t e => t.dropStation_breaks m e n) _ _

/-- R53: the stop of a station whose latch was set already changes nothing. -/
theorem State.latchStation_set {s : State} {n : Fin 12} (h : (s.stations.get n).stopLatch = true) : s.latchStation n = s :=
  if_pos h

/-- R53: the stop of a station whose latch was clear. -/
theorem State.latchStation_clear {s : State} {n : Fin 12} (h : (s.stations.get n).stopLatch = false) :
    s.latchStation n =
      ((((s.setStation n fun x => { x with stopLatch := true, silence := none }).report (.stationStop n true)).zeroStation
        n).dropClaims n) := by
  rw [State.latchStation, h]
  rfl

theorem State.latchStation_breaks (s : State) (m n : Fin 12) :
    ((s.latchStation m).console.get n).breaks = (s.console.get n).breaks := by
  rw [State.latchStation]
  split
  · rfl
  · rw [State.dropClaims_breaks]
    simp

theorem State.latchStation_latched (s : State) (n : Fin 12) : ((s.latchStation n).stations.get n).stopLatch = true := by
  cases h : (s.stations.get n).stopLatch with
  | true => rwa [State.latchStation_set h]
  | false => simp [State.latchStation_clear h]

/-- R85: the state after the start of a break on a line. -/
def State.broken (s : State) (n : Fin 12) : State := (s.setConsole n (·.startBreak)).latchStation n

theorem breakStart_eq {s : State} {n : Fin 12} (h : (s.console.get n).breakPresent = false) : breakStart n s = s.broken n := by
  rw [breakStart, h]
  rfl

theorem State.broken_breaks (s : State) (n : Fin 12) :
    ((s.broken n).console.get n).breaks = (true, bump (s.console.get n).counters.breaks) := by
  rw [State.broken, State.latchStation_breaks, State.setConsole_console, Tab.get_modify_self, ConsoleLine.startBreak_breaks]

/-- R53, R147: what the stop does to the station, to its slots and to its claims. -/
theorem State.broken_clear {s : State} {n : Fin 12} (h : (s.stations.get n).stopLatch = false) :
    ((s.broken n).stations.get n).silence = none ∧ (s.broken n).trunk = (s.report (.stationStop n true)).trunk ∧
    (∀ i, (s.slotEntry i).station = some n → (s.broken n).slots.get i = (s.slots.get i).zeroTargets) ∧
    ∀ e, (s.broken n).claims.get e = (s.claims.get e).without (s.entries.get e).holdLimit n := by
  have hbroken : s.broken n = _ := State.latchStation_clear (s := s.setConsole n (·.startBreak)) h
  rw [hbroken]
  refine ⟨by simp, by simp, fun i hi => ?slots, fun e => ?claims⟩
  case slots => simp [hi]
  case claims =>
    rw [State.dropClaims_claims]
    simp

theorem State.broken_frame (s : State) (n : Fin 12) : s.broken n = { s with
    console := (s.broken n).console, stations := (s.broken n).stations, slots := (s.broken n).slots
    claims := (s.broken n).claims, trunk := (s.broken n).trunk } := by
  apply State.eq_of_blocks <;> simp [State.broken]

/-- Settles O40: the break is counted at its line, and the stop latched as R53 says; the answers of R147 leave both alone. -/
theorem breakStartStopsTheStation : Obligations.BreakStartStopsTheStation := by
  intro s n h
  obtain ⟨hpresent, hbreaks⟩ := Prod.mk.inj (s.broken_breaks n)
  refine ⟨s.broken n, congrArg Host.Outcome.next (breakStart_eq h), hpresent, hbreaks, State.latchStation_latched _ n,
    fun hclear => ?clear, fun hset => ?set, s.broken_frame n⟩
  case clear =>
    obtain ⟨hsilence, htrunk, hslots, hclaims⟩ := State.broken_clear hclear
    refine ⟨hsilence, htrunk, fun i hi => ?slot, fun e he => ?claim⟩
    case slot =>
      rw [hslots i hi]
      exact ⟨rfl, rfl⟩
    case claim =>
      rw [hclaims e]
      exact Claim.without_free he
  case set =>
    have hbroken : s.broken n = s.setConsole n (·.startBreak) := State.latchStation_set hset
    rw [hbroken]
    rfl

end Sys2Proof.Machine
end

section
/-! PROOFS. Slot windows judged, and the TELEMETRY of a good REPLY (R91, R93, R103, R111, R112). -/

namespace Sys2Proof.Machine

/-! ## TELEMETRY placed (R93) -/

/-- The TELEMETRY frame of a selector that a queue holds is replaced in its place. -/
theorem replaceTelemetry_first {k : Fin 2} {x : ConsoleOut} (hx : x.isTelemetryOf k = true) (f : ConsoleOut)
    (after : List ConsoleOut) : ∀ before : List ConsoleOut, (∀ y ∈ before, y.isTelemetryOf k = false) →
      replaceTelemetry k f (before ++ x :: after) = some (before ++ f :: after)
  | [], _ => by cases x <;> simp_all [ConsoleOut.isTelemetryOf, replaceTelemetry]
  | y :: before, h => by
    obtain ⟨hy, hbefore⟩ := List.forall_mem_cons.mp h
    have ih := replaceTelemetry_first hx f after before hbefore
    cases y <;> simp_all [ConsoleOut.isTelemetryOf, replaceTelemetry]

theorem replaceTelemetry_none {k : Fin 2} (f : ConsoleOut) :
    ∀ {queue : List ConsoleOut}, (∀ y ∈ queue, y.isTelemetryOf k = false) → replaceTelemetry k f queue = none
  | [], _ => rfl
  | y :: rest, h => by
    obtain ⟨hy, hrest⟩ := List.forall_mem_cons.mp h
    have ih := replaceTelemetry_none f hrest
    cases y <;> simp_all [ConsoleOut.isTelemetryOf, replaceTelemetry]

/-- R93: a TELEMETRY frame handed to a line is placed. -/
theorem ConsoleLine.pushTelemetry_placed (l : ConsoleLine) (k : Fin 2) (f : ConsoleOut) :
    TelemetryPlaced l (l.pushTelemetry k f) k f := by
  refine ⟨fun first before x after hqueue hx hbefore => ?replaces, fun hnone hroom => ?joins, fun hnone hfull => ?dropped⟩
  case replaces =>
    have htail : replaceTelemetry k f l.queue.tail = some (before ++ f :: after) := by
      rw [hqueue]
      exact replaceTelemetry_first hx f after before hbefore
    rw [ConsoleLine.pushTelemetry, htail]
    simp [hqueue]
  case joins =>
    rw [ConsoleLine.pushTelemetry, replaceTelemetry_none f hnone]
    simp only [if_pos hroom]
    exact ⟨⟨rfl, rfl⟩, rfl⟩
  case dropped =>
    rw [ConsoleLine.pushTelemetry, replaceTelemetry_none f hnone]
    simp only [if_neg (Nat.not_lt.mpr hfull)]

/-! ## Windows ended (R111) -/

theorem LinkState.bound_iff (x : LinkState) : x.bound = true ↔ x = .linked ∨ x = .lost := by
  cases x <;> simp [LinkState.bound]

/-- R111: the state in which the window in progress has ended, with no missed reply counted yet. -/
def State.windowClosed (s : State) : State := { s with
  radio := { s.radio with
    part := if s.radio.toCome = [] then s.radio.profile.afterWindows else .between
    position := 1 + s.radio.windows.length - s.radio.toCome.length } }

theorem slotWindowEnd_eq {s : State} {i : Fin 24} {seen good : Bool} (hp : s.radio.part = .window i seen good) :
    slotWindowEnd s =
      if ((s.links.get i).state = .linked ∨ (s.links.get i).state = .lost) ∧ good = false then
        s.windowClosed.setLink i fun x => { x with missed := bump x.missed }
      else s.windowClosed := by
  simp only [slotWindowEnd, State.closeWindow, hp, ← LinkState.bound_iff, ← Bool.not_eq_true', ← Bool.and_eq_true]
  rfl

/-! ## Good REPLYs (R111, R112) -/

/-- R111: a REPLY that carries the arena, the slot and its kit ID, of a bound slot, with no more than 12 bytes, is good. -/
theorem State.goodReply_of_bound {s : State} {i : Fin 24} {payload : List Byte}
    (hb : (s.links.get i).state = .linked ∨ (s.links.get i).state = .lost) (hl : payload.length ≤ 12) :
    s.goodReply i s.radio.profile.arena (num8 i.val) (s.slotEntry i).kit payload = true := by
  simp [State.goodReply, (LinkState.bound_iff _).mpr hb, hl]

/-- R112: the state in which a good REPLY has been taken up by its slot, with no report and no TELEMETRY yet. -/
def State.replyTaken (s : State) (i : Fin 24) (battery : BitVec 16) (status : Byte) : State := { s with
  radio := { s.radio with part := .window i true true }
  links := s.links.set i { s.links.get i with
    state := .linked, liveness := some (s.slotEntry i).timeout, battery := battery, status := status } }

/-- R112: the same with the LINK report of a slot that was LOST. -/
def State.replyReported (s : State) (i : Fin 24) (battery : BitVec 16) (status : Byte) : State :=
  if (s.links.get i).state = .lost then
    (s.replyTaken i battery status).report (.link i .linked .reply (s.slotEntry i).kit 0)
  else s.replyTaken i battery status

theorem replyReceived_good {s : State} {i : Fin 24} {good : Bool} {payload : List Byte}
    (hp : s.radio.part = .window i false good) (hb : (s.links.get i).state = .linked ∨ (s.links.get i).state = .lost)
    (hl : payload.length ≤ 12) (battery : BitVec 16) (status : Byte) :
    replyReceived s.radio.profile.arena (num8 i.val) (s.slotEntry i).kit battery status payload s =
      (s.replyReported i battery status).telemetry i battery status payload := by
  simp only [replyReceived, hp, State.goodReply_of_bound hb hl, if_true, Bool.or_true, State.takeReply, decide_eq_true_eq]
  rfl

/-- R112: what a good REPLY changes before its TELEMETRY, and what it does not. -/
theorem State.replyReported_frame (s : State) (i : Fin 24) (battery : BitVec 16) (status : Byte) :
    s.replyReported i battery status = { s.replyTaken i battery status with
      trunk := if (s.links.get i).state = .lost then (s.report (.link i .linked .reply (s.slotEntry i).kit 0)).trunk
        else s.trunk } := by
  rw [State.replyReported]
  split <;> rfl

/-- R91: the TELEMETRY of a slot touches the console lines only. -/
theorem State.telemetry_frame (s : State) (i : Fin 24) (battery : BitVec 16) (status : Byte) (payload : List Byte) :
    s.telemetry i battery status payload = { s with console := (s.telemetry i battery status payload).console } := by
  rw [State.telemetry]
  split
  · split <;> rfl
  · rfl

/-- R91: the TELEMETRY of a slot whose station is present goes to that station's line. -/
theorem State.telemetry_present {s : State} {i : Fin 24} {n : Fin 12} (hn : (s.slotEntry i).station = some n)
    (ht : (s.stationEntry n).team ≠ 0) (battery : BitVec 16) (status : Byte) (payload : List Byte) :
    s.telemetry i battery status payload = s.setConsole n
      (·.pushTelemetry (s.slotEntry i).selector (.telemetry (s.slotEntry i).selector battery status payload)) := by
  simp only [State.telemetry, hn, if_pos ((StationEntry.present_iff _).mpr ht)]

theorem State.telemetry_absent {s : State} {i : Fin 24}
    (h : ∀ n, (s.slotEntry i).station = some n → (s.stationEntry n).team = 0) (battery : BitVec 16) (status : Byte)
    (payload : List Byte) : s.telemetry i battery status payload = s := by
  rw [State.telemetry]
  split
  case h_1 n hn => exact if_neg fun hpresent => (StationEntry.present_iff _).mp hpresent (h n hn)
  case h_2 => rfl

/-- R91, R112: whose TELEMETRY it is stands in the match tables, which a good REPLY leaves as they were. -/
theorem State.replyReported_entries (s : State) (i : Fin 24) (battery : BitVec 16) (status : Byte) :
    (s.replyReported i battery status).slotEntry = s.slotEntry ∧
      (s.replyReported i battery status).stationEntry = s.stationEntry := by
  rw [State.replyReported_frame]
  exact ⟨rfl, rfl⟩

/-- Settles O45: a window is judged at its end; in it a good REPLY is taken up, reported, and its TELEMETRY placed. -/
theorem windowsAreJudged : Obligations.WindowsAreJudged := by
  refine ⟨fun s i seen good hp => ⟨_, congrArg Host.Outcome.next (slotWindowEnd_eq hp), ?ended⟩,
    fun s i good battery status payload hp hb hl =>
      ⟨_, congrArg Host.Outcome.next (replyReceived_good hp hb hl battery status), ?reply⟩⟩
  case ended =>
    split
    · exact ⟨rfl, rfl, rfl⟩
    · exact ⟨rfl, rfl, rfl⟩
  case reply =>
    obtain ⟨hslot, hstation⟩ := s.replyReported_entries i battery status
    have hframe := s.replyReported_frame i battery status
    have hconsole : (s.replyReported i battery status).console = s.console := by rw [hframe]; rfl
    refine ⟨?links, ?radio, ?trunk, fun n hn ht => ⟨?placed, fun m hm => ?others⟩, fun habsent => ?absent, ?frame⟩
    case links =>
      rw [State.telemetry_frame, hframe]
      rfl
    case radio =>
      rw [State.telemetry_frame, hframe]
      rfl
    case trunk => rw [State.telemetry_frame, hframe]
    case placed =>
      rw [State.telemetry_present (by rwa [hslot]) (by rwa [hstation]), State.setConsole_console, Tab.get_modify_self, hconsole,
        hslot]
      exact ConsoleLine.pushTelemetry_placed _ _ _
    case others =>
      rw [State.telemetry_present (by rwa [hslot]) (by rwa [hstation]), State.setConsole_console, Tab.get_modify_ne _ _ hm.symm,
        hconsole]
    case absent => rw [State.telemetry_absent (by simpa only [hslot, hstation] using habsent), hconsole]
    case frame =>
      rw [State.telemetry_frame, hframe]
      rfl

end Sys2Proof.Machine
end

section
/-! PROOFS. Characters and gaps of the console lines, and the judgement of a frame (R82 to R89). -/

namespace Sys2Proof.Machine

/-! ## The contents of a CONTROL frame (R89, 11.3) -/

theorem getD_toList_append {m : Nat} (t : Tab m Byte) (rest : List Byte) {i : Nat} (h : i < m) :
    (Tab.toList t ++ rest).getD i 0 = t.get ⟨i, h⟩ := by
  have hi : i < (Tab.toList t).length := by simpa [Tab.toList] using h
  rw [List.getD_append _ _ _ _ hi, List.getD_eq_getElem _ _ hi]
  simp [Tab.toList]

/-- 11.3: the bytes of a CONTROL frame behind its kind. -/
def controlBytes (selector : Byte) (channels : Tab 12 Byte) (buttons present element action output value : Byte) : List Byte :=
  selector :: Tab.toList channels ++ [buttons, present, element, action, output, value]

/-- R90: the contents of such a frame, for a request or none. -/
def controlContents (selector : Byte) (channels : Tab 12 Byte) (buttons : Byte) (request : Option ElementRequest) :
    ControlFrame :=
  { selector, channels := .build fun k => channels.get ⟨2 * k.val, by omega⟩ ++ channels.get ⟨2 * k.val + 1, by omega⟩
    buttons, request }

section
variable (selector : Byte) (channels : Tab 12 Byte) (buttons present element action output value b : Byte)

theorem controlBytes_length : (controlBytes selector channels buttons present element action output value).length = 19 := by
  simp [controlBytes, Tab.toList]

theorem controlBytes_channel {i : Nat} (h : i < 12) :
    (controlBytes selector channels buttons present element action output value ++ [b]).getD (i + 1) 0 =
      channels.get ⟨i, h⟩ := by
  rw [controlBytes, List.append_assoc, List.cons_append, List.getD_cons_succ, getD_toList_append _ _ h]

theorem controlBytes_channels (k : Fin 6) :
    word16 ((controlBytes selector channels buttons present element action output value ++ [b]).getD (1 + 2 * k.val) 0)
        ((controlBytes selector channels buttons present element action output value ++ [b]).getD (2 + 2 * k.val) 0) =
      channels.get ⟨2 * k.val, by omega⟩ ++ channels.get ⟨2 * k.val + 1, by omega⟩ := by
  rw [show 1 + 2 * k.val = 2 * k.val + 1 by omega, show 2 + 2 * k.val = 2 * k.val + 1 + 1 by omega,
    controlBytes_channel, controlBytes_channel]
  rfl

/-- R89: what is read of a CONTROL frame, its check byte still behind it. -/
theorem parseControl_bytes :
    parseControl (controlBytes selector channels buttons present element action output value ++ [b]) =
      (decodeYN present).bind fun asks =>
        if asks then (decodeClaimAction action).map fun a =>
          controlContents selector channels buttons (some ⟨element, a, output, value⟩)
        else some (controlContents selector channels buttons none) := by
  simp only [parseControl, controlBytes_channels]
  generalize hbytes : controlBytes selector channels buttons present element action output value ++ [b] = bytes
  have hselector : bytes.getD 0 0 = selector := by rw [← hbytes]; rfl
  have hbuttons : bytes.getD 13 0 = buttons := by rw [← hbytes]; rfl
  have hpresent : bytes.getD 14 0 = present := by rw [← hbytes]; rfl
  have helement : bytes.getD 15 0 = element := by rw [← hbytes]; rfl
  have haction : bytes.getD 16 0 = action := by rw [← hbytes]; rfl
  have houtput : bytes.getD 17 0 = output := by rw [← hbytes]; rfl
  have hvalue : bytes.getD 18 0 = value := by rw [← hbytes]; rfl
  rw [hselector, hbuttons, hpresent, helement, haction, houtput, hvalue]
  cases decodeYN present with
  | none => rfl
  | some asks => cases asks <;> cases decodeClaimAction action <;> rfl

end

theorem decodeClaimAction_some {action : Byte} {a : ClaimAction}
    (h : (action = 1 ∧ a = .claim) ∨ (action = 2 ∧ a = .release) ∨ (action = 3 ∧ a = .actuate)) :
    decodeClaimAction action = some a := by
  obtain ⟨rfl, rfl⟩ | ⟨rfl, rfl⟩ | ⟨rfl, rfl⟩ := h <;> rfl

theorem decodeClaimAction_none {action : Byte} (h1 : action ≠ 1) (h2 : action ≠ 2) (h3 : action ≠ 3) :
    decodeClaimAction action = none := by
  rw [decodeClaimAction, if_neg h1, if_neg h2, if_neg h3]

/-! ## The judgement of a frame (R89) -/

/-- R87, R89: the line has dropped a frame of a wrong length or a bad request. -/
def ConsoleLine.malformed (l : ConsoleLine) : ConsoleLine := { l with
  assembler := .hunting, counters := { l.counters with formatErrors := bump l.counters.formatErrors } }

/-- R89, R90: the line holds a completed frame. -/
def ConsoleLine.complete (l : ConsoleLine) (f : HeldFrame) : ConsoleLine := { l with
  assembler := .waiting f, counters := { l.counters with completed := bump l.counters.completed } }

/-- R89, tests 1 and 2. -/
theorem ConsoleLine.judge_spoilt (l : ConsoleLine) {bytes : List Byte} {damaged : Bool}
    (h : damaged = true ∨ sum8 bytes ≠ 0) : l.judge bytes damaged = { l with
      assembler := .hunting, counters := { l.counters with checkFailures := bump l.counters.checkFailures } } := by
  rw [ConsoleLine.judge, if_pos (by simpa using h)]
  rfl

/-- R89, tests 3 to 5, of a frame that is whole. -/
theorem ConsoleLine.judge_whole (l : ConsoleLine) {start len kind : Byte} {rest : List Byte}
    (hsum : sum8 (start :: len :: kind :: rest) = 0) : l.judge (start :: len :: kind :: rest) false =
    if kind = 0x01 then
      if len = 20 then (parseControl rest).elim l.malformed fun f => l.complete (.control f) else l.malformed
    else if kind = 0x02 then if len = 1 then l.complete .ping else l.malformed
    else { l with
      assembler := .hunting, counters := { l.counters with unknownKinds := bump l.counters.unknownKinds } } := by
  rw [ConsoleLine.judge, if_neg (by simp [hsum])]
  simp only [List.getD_cons_succ, List.getD_cons_zero, List.drop_succ_cons, List.drop_zero]
  cases parseControl rest <;> rfl

/-! ## What the assembler makes of an entry (R86 to R88) -/

/-- R86: the assembler after an entry examined in HUNTING. -/
def beginning (byte : Byte) (framing : Bool) : Assembler :=
  if byte = 0x7E ∧ framing = false then .assembling [0x7E] false else .hunting

theorem ConsoleLine.hunt_eq (l : ConsoleLine) (e : FifoEntry) : l.hunt e = l.assemble (beginning e.byte e.framing) := by
  rw [ConsoleLine.hunt, beginning]
  split <;> rfl

theorem ConsoleLine.absorb_hunting {l : ConsoleLine} (h : l.assembler = .hunting) (e : FifoEntry) :
    l.absorb e = l.assemble (beginning e.byte e.framing) := by
  simp only [ConsoleLine.absorb, h, ConsoleLine.hunt_eq]

section
variable {l : ConsoleLine} {bytes : List Byte} {damaged : Bool} (h : l.assembler = .assembling bytes damaged) {e : FifoEntry}
include h

/-- R88: a BREAK abandons the frame without a count. -/
theorem ConsoleLine.absorb_break (hbrk : e.bounds.brk = true) : l.absorb e = l.assemble (beginning e.byte e.framing) := by
  simp only [ConsoleLine.absorb, h, hbrk, if_true, ConsoleLine.hunt_eq]
  rfl

/-- R88: a GAP abandons the frame, counted. -/
theorem ConsoleLine.absorb_gap (hbrk : e.bounds.brk = false) (hgap : e.bounds.gap = true) :
    l.absorb e = { l with
      assembler := beginning e.byte e.framing, counters := { l.counters with gapTimeouts := bump l.counters.gapTimeouts } } := by
  simp only [ConsoleLine.absorb, h, hbrk, hgap, Bool.false_eq_true, if_false, if_true, ConsoleLine.hunt_eq]
  rfl

theorem ConsoleLine.absorb_byte (hbrk : e.bounds.brk = false) (hgap : e.bounds.gap = false) :
    l.absorb e = l.takeByte (bytes ++ [e.byte]) (damaged || e.framing || e.bounds.loss) := by
  simp only [ConsoleLine.absorb, h, hbrk, hgap, Bool.false_eq_true, if_false, Bool.or_right_comm]

end

/-- R87: the second byte is the length. -/
theorem ConsoleLine.takeByte_length (l : ConsoleLine) (start len : Byte) (damaged : Bool) :
    l.takeByte [start, len] damaged =
      if 1 ≤ len.toNat ∧ len.toNat ≤ 32 then l.assemble (.assembling [start, len] damaged) else l.malformed := rfl

/-- R87: a byte of kind and body. -/
theorem ConsoleLine.takeByte_body (l : ConsoleLine) {start len b : Byte} {rest : List Byte} (damaged : Bool)
    (h : rest.length < len.toNat) : l.takeByte (start :: len :: rest ++ [b]) damaged =
      l.assemble (.assembling (start :: len :: rest ++ [b]) damaged) := by
  have hlen : (start :: len :: rest ++ [b]).getD 1 0 = len := rfl
  rw [ConsoleLine.takeByte, hlen, if_neg (by simp), if_neg (by simp; omega)]

/-- R87: the check byte completes the frame. -/
theorem ConsoleLine.takeByte_check (l : ConsoleLine) {start len kind b : Byte} {body : List Byte} (damaged : Bool)
    (h : body.length + 1 = len.toNat) : l.takeByte (start :: len :: kind :: body ++ [b]) damaged =
      l.judge (start :: len :: kind :: body ++ [b]) damaged := by
  have hlen : (start :: len :: kind :: body ++ [b]).getD 1 0 = len := rfl
  rw [ConsoleLine.takeByte, hlen, if_neg (by simp), if_pos (by simp; omega)]

/-- R89: the check byte completes a frame that is whole. -/
theorem ConsoleLine.takeByte_whole (l : ConsoleLine) {start len kind b : Byte} {body : List Byte} {damaged : Bool}
    (h : body.length + 1 = len.toNat) (hd : damaged = false) (hsum : sum8 (start :: len :: kind :: body ++ [b]) = 0) :
    l.takeByte (start :: len :: kind :: body ++ [b]) damaged =
      if kind = 0x01 then
        if len = 20 then (parseControl (body ++ [b])).elim l.malformed fun f => l.complete (.control f) else l.malformed
      else if kind = 0x02 then if len = 1 then l.complete .ping else l.malformed
      else { l with
        assembler := .hunting, counters := { l.counters with unknownKinds := bump l.counters.unknownKinds } } := by
  rw [ConsoleLine.takeByte_check _ _ h, hd]
  exact l.judge_whole hsum

theorem ConsoleLine.isWaiting_hunting {l : ConsoleLine} (h : l.assembler = .hunting) : l.isWaiting = false := by
  simp only [ConsoleLine.isWaiting, h]

theorem ConsoleLine.isWaiting_assembling {l : ConsoleLine} {bytes : List Byte} {damaged : Bool}
    (h : l.assembler = .assembling bytes damaged) : l.isWaiting = false := by
  simp only [ConsoleLine.isWaiting, h]

theorem ConsoleLine.isWaiting_waiting {l : ConsoleLine} {held : HeldFrame} (h : l.assembler = .waiting held) :
    l.isWaiting = true := by
  simp only [ConsoleLine.isWaiting, h]

/-! ## Characters (R82, R83) -/

/-- R81: the counters of a line after a character, its framing error counted. -/
def ConsoleLine.framed (l : ConsoleLine) (framing : Bool) : LineCounters :=
  if framing then { l.counters with framingErrors := bump l.counters.framingErrors } else l.counters

/-- R83: the line with a character as the only entry of its FIFO, not taken by the assembler yet. -/
def ConsoleLine.arrived (l : ConsoleLine) (byte : Byte) (framing : Bool) : ConsoleLine := { l with
  fifo := [⟨byte, framing, l.pending⟩], pending := .empty, gapRaised := false, counters := l.framed framing }

theorem exec_character (s : State) (n : Fin 12) (byte : Byte) (framing : Bool) :
    exec (.consoleCharacterReceived n byte framing) s = .next { s with
      console := s.console.set n ((s.console.get n).character byte framing) } := rfl

theorem ConsoleLine.character_inBreak {l : ConsoleLine} (h : l.breakPresent = true) (byte : Byte) (framing : Bool) :
    l.character byte framing = l := if_pos h

theorem ConsoleLine.character_eq {l : ConsoleLine} (h : l.breakPresent = false) (byte : Byte) (framing : Bool) :
    l.character byte framing =
      ({ l with gapRaised := false, counters := l.framed framing } : ConsoleLine).enter byte framing := by
  rw [ConsoleLine.character, if_neg (by simp [h])]
  cases framing <;> rfl

/-- R90: a WAITING assembler leaves the FIFO as it is. -/
theorem ConsoleLine.drain_waiting {l : ConsoleLine} (h : l.isWaiting = true) : l.drain = l := by
  rw [ConsoleLine.drain]
  cases hfifo : l.fifo with
  | nil => rw [drainEntries, ← hfifo]
  | cons e rest => rw [drainEntries, if_pos h, ← hfifo]

/-- R83: a character behind a completed frame stays in the FIFO, or is lost. -/
theorem ConsoleLine.character_waiting {l : ConsoleLine} (h : l.breakPresent = false) (hw : l.isWaiting = true) (byte : Byte)
    (framing : Bool) : l.character byte framing =
      if l.fifo.length < 16 then { l with
        fifo := l.fifo ++ [⟨byte, framing, l.pending⟩], pending := .empty, gapRaised := false, counters := l.framed framing }
      else { l with
        pending := { l.pending with loss := true }, gapRaised := false
        counters := { l.framed framing with overruns := bump l.counters.overruns } } := by
  rw [ConsoleLine.character_eq h, ConsoleLine.enter]
  split
  · exact ConsoleLine.drain_waiting hw
  · cases framing <;> rfl

/-- R86: a character reaches an assembler that is not WAITING through an empty FIFO at once. -/
theorem ConsoleLine.character_absorbed {l : ConsoleLine} (h : l.breakPresent = false) (hfifo : l.fifo = [])
    (hw : l.isWaiting = false) {byte : Byte} {framing : Bool} {a : Assembler} {c : LineCounters}
    (ha : (l.arrived byte framing).absorb ⟨byte, framing, l.pending⟩ =
      { l.arrived byte framing with assembler := a, counters := c }) :
    l.character byte framing = { l with assembler := a, pending := .empty, gapRaised := false, counters := c } := by
  have henter : l.character byte framing = (l.arrived byte framing).drain := by
    rw [ConsoleLine.character_eq h, ConsoleLine.enter, if_pos (by simp [hfifo]), ConsoleLine.arrived]
    simp only [hfifo, List.nil_append]
  have hw' : (l.arrived byte framing).isWaiting = false := hw
  have hentries : (l.arrived byte framing).fifo = [⟨byte, framing, l.pending⟩] := rfl
  rw [henter, ConsoleLine.drain, hentries, drainEntries, hw', if_neg Bool.false_ne_true, drainEntries, ha, ← hfifo]
  rfl

/-! ## Gaps (R84) -/

theorem exec_gap (s : State) (n : Fin 12) :
    exec (.gap n) s = .next { s with console := s.console.set n (s.console.get n).gap } := rfl

section
variable {l : ConsoleLine} (h : l.breakPresent = false) (hraised : l.gapRaised = false) (hfifo : l.fifo = [])
include h hraised hfifo

/-- R84, R88: a GAP abandons the frame in assembly. -/
theorem ConsoleLine.gap_assembling {bytes : List Byte} {damaged : Bool} (ha : l.assembler = .assembling bytes damaged) :
    l.gap = { l with
      assembler := .hunting, gapRaised := true
      counters := { l.counters with gapTimeouts := bump l.counters.gapTimeouts } } := by
  simp [ConsoleLine.gap, ConsoleLine.atOnce, ConsoleLine.isWaiting, ConsoleLine.isAssembling, ConsoleLine.abandonGap,
    ConsoleLine.assemble, ConsoleLine.count, h, hraised, hfifo, ha]

/-- R84: a GAP finds no frame to abandon. -/
theorem ConsoleLine.gap_hunting (ha : l.assembler = .hunting) : l.gap = { l with gapRaised := true } := by
  simp [ConsoleLine.gap, ConsoleLine.atOnce, ConsoleLine.isWaiting, ConsoleLine.isAssembling, h, hraised, hfifo, ha]

end

/-! ## Characters at the assembler (R86 to R89) -/

/-- R86: the state after a character that the assembler of its line took up. -/
def State.absorbed (s : State) (n : Fin 12) (a : Assembler) (c : LineCounters) : State := { s with
  console := s.console.set n { s.console.get n with assembler := a, pending := .empty, gapRaised := false, counters := c } }

section
variable {s : State} {n : Fin 12} {b : Byte} {framing : Bool} (hbreak : (s.console.get n).breakPresent = false)
  (hfifo : (s.console.get n).fifo = [])
include hbreak hfifo

theorem exec_absorbed (hw : (s.console.get n).isWaiting = false) {a : Assembler} {c : LineCounters}
    (ha : ((s.console.get n).arrived b framing).absorb ⟨b, framing, (s.console.get n).pending⟩ =
      { (s.console.get n).arrived b framing with assembler := a, counters := c }) :
    exec (.consoleCharacterReceived n b framing) s = .next (s.absorbed n a c) := by
  rw [exec_character, ConsoleLine.character_absorbed hbreak hfifo hw ha]
  rfl

/-- R86: a hunting line looks for the start byte. -/
theorem exec_hunting (ha : (s.console.get n).assembler = .hunting) :
    exec (.consoleCharacterReceived n b framing) s =
      .next (s.absorbed n (beginning b framing) ((s.console.get n).framed framing)) :=
  exec_absorbed hbreak hfifo (ConsoleLine.isWaiting_hunting ha)
    (ConsoleLine.absorb_hunting (l := (s.console.get n).arrived b framing) ha _)

variable {bytes : List Byte} {damaged : Bool} (hasm : (s.console.get n).assembler = .assembling bytes damaged)
include hasm

/-- R88: the character behind a BREAK is examined as the first of the next frame. -/
theorem exec_afterBreak (hbrk : (s.console.get n).pending.brk = true) :
    exec (.consoleCharacterReceived n b framing) s =
      .next (s.absorbed n (beginning b framing) ((s.console.get n).framed framing)) :=
  exec_absorbed hbreak hfifo (ConsoleLine.isWaiting_assembling hasm)
    (ConsoleLine.absorb_break (l := (s.console.get n).arrived b framing) hasm hbrk)

variable (hbrk : (s.console.get n).pending.brk = false)
include hbrk

/-- R88: the character behind a GAP is examined as the first of the next frame, and the frame abandoned is counted. -/
theorem exec_afterGap (hgap : (s.console.get n).pending.gap = true) :
    exec (.consoleCharacterReceived n b framing) s =
      .next (s.absorbed n (beginning b framing) { (s.console.get n).framed framing with
        gapTimeouts := bump (s.console.get n).counters.gapTimeouts }) := by
  refine exec_absorbed hbreak hfifo (ConsoleLine.isWaiting_assembling hasm)
    ((ConsoleLine.absorb_gap (l := (s.console.get n).arrived b framing) hasm hbrk hgap).trans ?_)
  cases framing <;> rfl

variable (hgap : (s.console.get n).pending.gap = false)
include hgap

/-- R87: a character that no boundary comes with is taken into the frame. -/
theorem exec_taken {a : Assembler} {c : LineCounters}
    (ht : ((s.console.get n).arrived b framing).takeByte (bytes ++ [b]) (damaged || framing || (s.console.get n).pending.loss) =
      { (s.console.get n).arrived b framing with assembler := a, counters := c }) :
    exec (.consoleCharacterReceived n b framing) s = .next (s.absorbed n a c) :=
  exec_absorbed hbreak hfifo (ConsoleLine.isWaiting_assembling hasm)
    ((ConsoleLine.absorb_byte (l := (s.console.get n).arrived b framing) hasm hbrk hgap).trans ht)

/-- R87, R89: a character that shows the frame to be malformed. -/
theorem exec_malformed
    (ht : ((s.console.get n).arrived b framing).takeByte (bytes ++ [b]) (damaged || framing || (s.console.get n).pending.loss) =
      ((s.console.get n).arrived b framing).malformed) :
    exec (.consoleCharacterReceived n b framing) s = .next (s.absorbed n .hunting { (s.console.get n).framed framing with
      formatErrors := bump (s.console.get n).counters.formatErrors }) := by
  refine exec_taken hbreak hfifo hasm hbrk hgap (ht.trans ?_)
  cases framing <;> rfl

/-- R89, R90: a character that completes a good frame. -/
theorem exec_completed {f : HeldFrame}
    (ht : ((s.console.get n).arrived b framing).takeByte (bytes ++ [b]) (damaged || framing || (s.console.get n).pending.loss) =
      ((s.console.get n).arrived b framing).complete f) :
    exec (.consoleCharacterReceived n b framing) s = .next (s.absorbed n (.waiting f) { (s.console.get n).framed framing with
      completed := bump (s.console.get n).counters.completed }) := by
  refine exec_taken hbreak hfifo hasm hbrk hgap (ht.trans ?_)
  cases framing <;> rfl

/-- R87: a character taken as the length. -/
theorem exec_length (hbytes : bytes = [0x7E]) : exec (.consoleCharacterReceived n b framing) s =
    if 1 ≤ b.toNat ∧ b.toNat ≤ 32 then
      .next (s.absorbed n (.assembling [0x7E, b] (damaged || framing || (s.console.get n).pending.loss))
        ((s.console.get n).framed framing))
    else .next (s.absorbed n .hunting { (s.console.get n).framed framing with
      formatErrors := bump (s.console.get n).counters.formatErrors }) := by
  subst hbytes
  have htaken := ((s.console.get n).arrived b framing).takeByte_length 0x7E b
    (damaged || framing || (s.console.get n).pending.loss)
  split
  case isTrue hlen =>
    rw [if_pos hlen] at htaken
    exact exec_taken hbreak hfifo hasm hbrk hgap htaken
  case isFalse hlen =>
    rw [if_neg hlen] at htaken
    exact exec_malformed hbreak hfifo hasm hbrk hgap htaken

section
variable {len kind : Byte} {body : List Byte} (hbytes : bytes = 0x7E :: len :: kind :: body)
  (hbody : body.length + 1 = len.toNat)
include hbytes hbody

/-- R89, tests 1 and 2: a character that completes a damaged frame, or one of a wrong sum. -/
theorem exec_spoilt (h : (damaged || framing || (s.console.get n).pending.loss) = true ∨ sum8 (bytes ++ [b]) ≠ 0) :
    exec (.consoleCharacterReceived n b framing) s = .next (s.absorbed n .hunting { (s.console.get n).framed framing with
      checkFailures := bump (s.console.get n).counters.checkFailures }) := by
  subst hbytes
  refine exec_taken hbreak hfifo hasm hbrk hgap
    (((ConsoleLine.takeByte_check _ _ hbody).trans (ConsoleLine.judge_spoilt _ h)).trans ?_)
  cases framing <;> rfl

variable (hclean : (damaged || framing || (s.console.get n).pending.loss) = false) (hsum : sum8 (bytes ++ [b]) = 0)
include hclean hsum

/-- R89, test 3: a character that completes a frame of an unknown kind. -/
theorem exec_unknownKind (h1 : kind ≠ 0x01) (h2 : kind ≠ 0x02) : exec (.consoleCharacterReceived n b framing) s =
    .next (s.absorbed n .hunting { (s.console.get n).framed framing with
      unknownKinds := bump (s.console.get n).counters.unknownKinds }) := by
  subst hbytes
  have htaken := ((s.console.get n).arrived b framing).takeByte_whole hbody hclean hsum
  rw [if_neg h1, if_neg h2] at htaken
  refine exec_taken hbreak hfifo hasm hbrk hgap (htaken.trans ?_)
  cases framing <;> rfl

/-- R89, test 4: a character that completes a PING, which has no body. -/
theorem exec_pingCompleted (hkind : kind = 0x02) : exec (.consoleCharacterReceived n b framing) s =
    if len = 1 then .next (s.absorbed n (.waiting .ping) { (s.console.get n).framed framing with
      completed := bump (s.console.get n).counters.completed })
    else .next (s.absorbed n .hunting { (s.console.get n).framed framing with
      formatErrors := bump (s.console.get n).counters.formatErrors }) := by
  subst hbytes hkind
  have htaken := ((s.console.get n).arrived b framing).takeByte_whole hbody hclean hsum
  rw [if_neg (by decide), if_pos rfl] at htaken
  split
  case isTrue hlen =>
    rw [if_pos hlen] at htaken
    exact exec_completed hbreak hfifo hasm hbrk hgap htaken
  case isFalse hlen =>
    rw [if_neg hlen] at htaken
    exact exec_malformed hbreak hfifo hasm hbrk hgap htaken

/-- R89, test 4: a character that completes a CONTROL frame of a wrong length. -/
theorem exec_controlLength (hkind : kind = 0x01) (hlen : len ≠ 20) : exec (.consoleCharacterReceived n b framing) s =
    .next (s.absorbed n .hunting { (s.console.get n).framed framing with
      formatErrors := bump (s.console.get n).counters.formatErrors }) := by
  subst hbytes
  have htaken := ((s.console.get n).arrived b framing).takeByte_whole hbody hclean hsum
  rw [if_pos hkind, if_neg hlen] at htaken
  exact exec_malformed hbreak hfifo hasm hbrk hgap htaken

end

/-- R89, test 5: a character that completes a CONTROL frame of the right length. -/
theorem exec_controlCompleted {selector : Byte} {channels : Tab 12 Byte} {buttons present element action output value len : Byte}
    (hbytes : bytes = 0x7E :: len :: 0x01 :: controlBytes selector channels buttons present element action output value)
    (hbody : (controlBytes selector channels buttons present element action output value).length + 1 = len.toNat)
    (hclean : (damaged || framing || (s.console.get n).pending.loss) = false) (hsum : sum8 (bytes ++ [b]) = 0) :
    let outcome := exec (.consoleCharacterReceived n b framing) s
    let completed (request : Option ElementRequest) : Host.Outcome State Fault Refusal :=
      .next (s.absorbed n (.waiting (.control (controlContents selector channels buttons request)))
        { (s.console.get n).framed framing with completed := bump (s.console.get n).counters.completed })
    (present = 0 → outcome = completed none) ∧
    (present = 1 → ∀ a, (action = 1 ∧ a = .claim) ∨ (action = 2 ∧ a = .release) ∨ (action = 3 ∧ a = .actuate) →
      outcome = completed (some ⟨element, a, output, value⟩)) ∧
    ((present ≠ 0 ∧ present ≠ 1) ∨ (present = 1 ∧ action ≠ 1 ∧ action ≠ 2 ∧ action ≠ 3) →
      outcome = .next (s.absorbed n .hunting { (s.console.get n).framed framing with
        formatErrors := bump (s.console.get n).counters.formatErrors })) := by
  subst hbytes
  have hlen : len = 20 := by
    rw [controlBytes_length] at hbody
    bv_omega
  have htaken := ((s.console.get n).arrived b framing).takeByte_whole hbody hclean hsum
  rw [if_pos rfl, if_pos hlen, parseControl_bytes] at htaken
  refine ⟨fun hp => ?noRequest, fun hp a ha => ?request, fun hbad => exec_malformed hbreak hfifo hasm hbrk hgap ?badRequest⟩
  case noRequest =>
    subst hp
    exact exec_completed hbreak hfifo hasm hbrk hgap htaken
  case request =>
    subst hp
    rw [decodeClaimAction_some ha] at htaken
    exact exec_completed hbreak hfifo hasm hbrk hgap htaken
  case badRequest =>
    obtain ⟨h0, h1⟩ | ⟨rfl, h1, h2, h3⟩ := hbad
    · rwa [decodeYN_none (by bv_omega)] at htaken
    · rwa [decodeClaimAction_none h1 h2 h3] at htaken

end

/-- Settles O39: what a line makes of a character or a gap, by the state of its assembler, and for a frame in assembly by the
bytes it holds. -/
theorem characterAndGapReachTheAssembler : Obligations.CharacterAndGapReachTheAssembler := by
  refine ⟨⟨fun s n byte framing held hbreak hwaiting => ?waiting, fun s n byte framing hbreak => ?inBreak,
      fun s n hbreak hhunting hfifo => exec_hunting hbreak hfifo hhunting⟩,
    fun s n hbreak hraised hfifo => ⟨fun bytes damaged hasm => ?gapAssembling, fun hhunting => ?gapHunting⟩,
    fun s n bytes damaged framing b hbreak hfifo hasm =>
      ⟨exec_afterBreak hbreak hfifo hasm, exec_afterGap hbreak hfifo hasm,
        fun hbrk hgap => ⟨exec_length hbreak hfifo hasm hbrk hgap, fun len rest hbytes hrest => ?body,
          fun len kind body hbytes hbody => ⟨exec_spoilt hbreak hfifo hasm hbrk hgap hbytes hbody,
            fun hclean hsum => ⟨exec_unknownKind hbreak hfifo hasm hbrk hgap hbytes hbody hclean hsum,
              exec_pingCompleted hbreak hfifo hasm hbrk hgap hbytes hbody hclean hsum,
              exec_controlLength hbreak hfifo hasm hbrk hgap hbytes hbody hclean hsum,
              fun selector channels buttons present element action output value hkind hcontrol => ?control⟩⟩⟩⟩⟩
  case waiting =>
    rw [exec_character, ConsoleLine.character_waiting hbreak (ConsoleLine.isWaiting_waiting hwaiting)]
    rfl
  case inBreak => rw [exec_character, ConsoleLine.character_inBreak hbreak, Tab.set_get]
  case gapAssembling => rw [exec_gap, ConsoleLine.gap_assembling hbreak hraised hfifo hasm]
  case gapHunting => rw [exec_gap, ConsoleLine.gap_hunting hbreak hraised hfifo hhunting]
  case body =>
    subst hbytes
    exact exec_taken hbreak hfifo hasm hbrk hgap (ConsoleLine.takeByte_body _ _ hrest)
  case control =>
    subst hkind hcontrol
    exact exec_controlCompleted hbreak hfifo hasm hbrk hgap hbytes hbody hclean hsum

end Sys2Proof.Machine
end

section
/-! PROOFS. Radio cycles begun, and link profiles applied (R99 to R102, R105). -/

namespace Sys2Proof.Machine

/-! ## What a cycle fixes at its beginning (R101, R102) -/

theorem State.mem_windowList (s : State) (i : Fin 24) :
    i ∈ s.windowList ↔ (s.links.get i).state = .linked ∨ (s.links.get i).state = .lost := by
  simp [State.windowList, LinkState.bound_iff]

theorem State.windowList_ascending (s : State) : s.windowList.Pairwise (· < ·) :=
  (List.pairwise_lt_finRange 24).filter _

theorem LinkProfile.need_eq (p : LinkProfile) (n : Nat) : p.need n = 1 + n + (if p.join then 2 else 0) := by
  rw [LinkProfile.need]
  split <;> rfl

/-- R101: what a cycle with a given number fixes at its beginning, before its BEACON. -/
def Radio.begun (r : Radio) (number : Byte) (list : List (Fin 24)) : Radio :=
  { r with
    cycle := number, windows := list, toCome := list, length := max r.profile.period (r.profile.need list.length)
    stretched := decide (r.profile.period < r.profile.need list.length), unknownJoin := false, part := .beacon, position := 0 }

/-- R102, R105: a BEACON takes two answers along when the transceiver is ready; else it is counted. -/
theorem State.sendBeacon_eq (s : State) : ∃ out counters, s.sendBeacon = { s with
    radio := { s.radio with
      answers := if s.radio.ready then s.radio.answers.drop 2 else s.radio.answers, out := out, counters := counters } } := by
  simp only [State.sendBeacon, State.setRadio]
  cases s.radio.ready
  · exact ⟨_, _, rfl⟩
  · exact ⟨_, _, rfl⟩

/-- R101, R102: a cycle begun, but for the bytes of its BEACON and the counters. -/
theorem State.beginCycle_eq (s : State) (number : Byte) : ∃ out counters, s.beginCycle number = { s with
    radio := { s.radio.begun number s.windowList with
      answers := if s.radio.ready then s.radio.answers.drop 2 else s.radio.answers, out := out, counters := counters } } := by
  by_cases hlong : s.radio.profile.period < s.radio.profile.need s.windowList.length
  case pos =>
    obtain ⟨out, counters, hsent⟩ := State.sendBeacon_eq
      ((s.setRadio fun r => r.begun number s.windowList).countRadio fun c => { c with stretched := bump c.stretched })
    refine ⟨out, counters, Eq.trans ?_ hsent⟩
    simp only [State.beginCycle, Radio.begun, State.setRadio, hlong, decide_true, if_true, max_eq_right hlong.le]
  case neg =>
    obtain ⟨out, counters, hsent⟩ := State.sendBeacon_eq (s.setRadio fun r => r.begun number s.windowList)
    refine ⟨out, counters, Eq.trans ?_ hsent⟩
    simp only [State.beginCycle, Radio.begun, State.setRadio, hlong, decide_false, Bool.false_eq_true, if_false,
      max_eq_left (Nat.not_lt.mp hlong)]

/-- Settles O43: CYCLE_BEGIN begins the cycle of the next number, whose windows are the bound slots. -/
theorem cycleBeginFixesTheWindows : Obligations.CycleBeginFixesTheWindows := by
  intro s ready
  obtain ⟨out, counters, hbegun⟩ := (s.setRadio fun r => { r with ready := ready }).beginCycle_eq (s.radio.cycle + 1)
  refine ⟨_, congrArg Host.Outcome.next hbegun, rfl, rfl, rfl, s.mem_windowList, s.windowList_ascending, rfl, ?length,
    ?stretched, rfl, rfl⟩
  case length => exact congrArg (max s.radio.profile.period) (s.radio.profile.need_eq _)
  case stretched =>
    rw [← LinkProfile.need_eq]
    exact decide_eq_true_iff

/-! ## APPLY_LINK (R99) -/

/-- R99: the state in which APPLY_LINK has applied the profile, dropped the bindings and looked at the transceiver. -/
def State.linkApplied (s : State) : State :=
  ((s.setRadio fun r => { r with profile := r.pendingProfile, answers := [] }).dropBound).lookReady

theorem State.linkApplied_links (s : State) (i : Fin 24) :
    s.linkApplied.links.get i = if (s.links.get i).state = .linked ∨ (s.links.get i).state = .lost then
      { s.links.get i with state := .searching, liveness := none } else s.links.get i := by
  simp [State.linkApplied, State.dropBound, LinkState.bound_iff]

theorem State.linkApplied_slots (s : State) (i : Fin 24) :
    s.linkApplied.slots.get i = if (s.links.get i).state = .linked ∨ (s.links.get i).state = .lost then
      { s.slots.get i with lastSent := .fill 0 } else s.slots.get i := by
  simp [State.linkApplied, State.dropBound, LinkState.bound_iff, SlotAdmission.zeroSent]

/-- R99, R101: with every bound slot dropped, the next cycle has no window. -/
theorem State.linkApplied_windowList (s : State) : s.linkApplied.windowList = [] := by
  refine List.eq_nil_iff_forall_not_mem.mpr fun i hi => ?_
  rw [State.mem_windowList, State.linkApplied_links] at hi
  split at hi
  case isTrue => simp at hi
  case isFalse hfree => exact hfree hi

/-- R99 to R101: the cycle that APPLY_LINK begins. -/
theorem State.linkApplied_nextCycle (s : State) : ∃ out counters, s.linkApplied.nextCycle = { s with
    radio := { s.linkApplied.radio.begun (s.radio.cycle + 1) [] with answers := [], out := out, counters := counters }
    links := s.linkApplied.links
    slots := s.linkApplied.slots } := by
  obtain ⟨out, counters, hbegun⟩ := s.linkApplied.beginCycle_eq (s.linkApplied.radio.cycle + 1)
  have hcycle : s.linkApplied.radio.cycle = s.radio.cycle := by simp [State.linkApplied, State.lookReady]
  have hanswers : s.linkApplied.radio.answers = [] := by simp [State.linkApplied, State.lookReady]
  rw [State.linkApplied_windowList, hanswers, List.drop_nil, ite_self, hcycle] at hbegun
  refine ⟨out, counters, ?_⟩
  rw [State.nextCycle, hcycle, hbegun]
  simp [State.linkApplied]

/-- R99: APPLY_LINK is refused when a clock is neither IDLE nor ARMED. -/
theorem applyLinkVerdict_refused {s : State} {h : Half} (hidle : (s.clocks.get h).state ≠ .idle)
    (harmed : (s.clocks.get h).state ≠ .armed) : applyLinkVerdict s = .refuse .wrongState := by
  cases h <;> simp [applyLinkVerdict, hidle, harmed]

theorem applyLinkVerdict_taken {s : State} (hstill : ∀ h, (s.clocks.get h).state = .idle ∨ (s.clocks.get h).state = .armed) :
    applyLinkVerdict s = .take .ok fun t => t.linkApplied.nextCycle := by
  have hboth (h : Half) :
      (decide ((s.clocks.get h).state = .idle) || decide ((s.clocks.get h).state = .armed)) = true := by simpa using hstill h
  simp only [applyLinkVerdict, hboth, Bool.and_self, Verdict.require_true, State.linkApplied]

/-- Settles O42: the cycle that begins once the bindings are dropped has no window. -/
theorem applyLinkDropsTheBindings : Obligations.ApplyLinkDropsTheBindings := by
  refine fun s tag hs => ⟨fun ⟨h, hidle, harmed⟩ => congrArg Host.Outcome.next ?refused, fun hstill => ?applied⟩
  case refused =>
    rw [State.submit_command hs, State.serveCommand, applyLinkVerdict_refused (s := s.counted) hidle harmed,
      State.carryOut_refuse, State.counted_answer]
  case applied =>
    have hsubmit : s.submit tag (.command .applyLink) = (s.replied tag .ok).linkApplied.nextCycle := by
      rw [State.submit_command hs, State.serveCommand, applyLinkVerdict_taken (s := s.counted) hstill, State.carryOut_take,
        State.counted_answer]
    obtain ⟨out, counters, hbegun⟩ := (s.replied tag .ok).linkApplied_nextCycle
    exact ⟨_, congrArg Host.Outcome.next (hsubmit.trans hbegun), rfl, rfl, rfl, rfl, rfl, rfl,
      (s.replied tag .ok).linkApplied_links, (s.replied tag .ok).linkApplied_slots, rfl⟩

end Sys2Proof.Machine
end

section
/-! PROOFS. JOINs, stray radio frames, and the expiry of liveness timers (R103, R104, R107 to R110, R113, R181). -/

namespace Sys2Proof.Machine

/-! ## The slot of a kit ID (R107) -/

theorem findKit_eq_none {slots : Tab 24 SlotEntry} {kit : BitVec 32} (h : ∀ j, (slots.get j).kit ≠ kit) :
    findKit slots kit = none := by
  simpa [findKit] using h

theorem findKit_eq_some {slots : Tab 24 SlotEntry} {kit : BitVec 32} {i : Fin 24} (hi : (slots.get i).kit = kit)
    (hunique : ∀ j, (slots.get j).kit = kit → j = i) : findKit slots kit = some i := by
  cases hfound : findKit slots kit with
  | none => exact absurd hi (by simpa using List.find?_eq_none.mp hfound i (List.mem_finRange i))
  | some j => exact congrArg some (hunique j (by simpa using List.find?_some hfound))

theorem State.slotOfKit_none {s : State} {kit : BitVec 32} (h : ∀ g j, ((s.active g).slots.get j).kit ≠ kit) :
    s.slotOfKit kit = none := by
  rw [State.slotOfKit, findKit_eq_none (h .a), findKit_eq_none (h .b)]
  rfl

/-- R17, R107: the slot found for a kit ID is the one that holds it. -/
theorem State.slotOfKit_unique {s : State} {h : Half} {i : Fin 24} {kit : BitVec 32} (hi : ((s.active h).slots.get i).kit = kit)
    (hunique : ∀ g j, ((s.active g).slots.get j).kit = kit → g = h ∧ j = i) : s.slotOfKit kit = some i := by
  have hfound : findKit (s.active h).slots kit = some i := findKit_eq_some hi fun j hj => (hunique h j hj).2
  cases h with
  | a => rw [State.slotOfKit, hfound, Option.some_or]
  | b =>
    have hother : findKit (s.active .a).slots kit = none := findKit_eq_none fun j hj => nomatch (hunique .a j hj).1
    rw [State.slotOfKit, hother, hfound, Option.none_or]

/-! ## Slots bound and restarted (R108 to R110) -/

/-- R110: the scheduler with a join answer placed: not twice for one kit, at the tail, or dropped and counted at 4. -/
def Radio.placed (r : Radio) (a : JoinAnswer) : Radio :=
  if r.answers.any (·.kit == a.kit) then r
  else if r.answers.length < 4 then { r with answers := r.answers ++ [a] }
  else { r with counters := { r.counters with answersDropped := bump r.counters.answersDropped } }

theorem State.placeAnswer_eq (s : State) (a : JoinAnswer) : s.placeAnswer a = { s with radio := s.radio.placed a } := by
  rw [State.placeAnswer, Radio.placed]
  split
  · rfl
  · split <;> rfl

theorem Radio.placed_held {r : Radio} {a : JoinAnswer} (h : ∃ b ∈ r.answers, b.kit = a.kit) : r.placed a = r := by
  rw [Radio.placed, if_pos (by simpa using h)]

theorem Radio.placed_new {r : Radio} {a : JoinAnswer} (h : ∀ b ∈ r.answers, b.kit ≠ a.kit) :
    r.placed a = if r.answers.length < 4 then { r with answers := r.answers ++ [a] }
      else { r with counters := { r.counters with answersDropped := bump r.counters.answersDropped } } := by
  rw [Radio.placed, if_neg (by simpa using h)]

/-- R108, R109: what binding a slot changes, and what it does not. -/
theorem State.bind_eq (s : State) (i : Fin 24) (cause : LinkCause) (kit : BitVec 32) (kitClass : Byte) :
    s.bind i cause kit kitClass = { s with
      links := s.links.set i { s.links.get i with state := .linked, liveness := some (s.slotEntry i).timeout }
      slots := s.slots.set i { s.slots.get i with lastSent := .fill 0 }
      radio := s.radio.placed ⟨kit, i⟩
      trunk := (s.report (.link i .linked cause kit kitClass)).trunk } := by
  rw [State.bind, State.placeAnswer_eq]
  rfl

/-- R108, R109: a JOIN of this arena that names a slot binds it, with the cause its link state gives. -/
theorem joinReceived_known {s : State} {i : Fin 24} {kit : BitVec 32} (hp : s.radio.part = .join) (hkit : kit ≠ 0)
    (hslot : s.slotOfKit kit = some i) (hv : (s.links.get i).state ≠ .vacant) (kitClass : Byte) :
    joinReceived s.radio.profile.arena kit kitClass s =
      s.bind i (if (s.links.get i).state = .searching then .join else .restart) kit kitClass := by
  rw [joinReceived, if_pos hp, State.takeJoin, if_neg (not_not_intro rfl), if_neg hkit, hslot]
  cases hstate : (s.links.get i).state with
  | vacant => exact absurd hstate hv
  | searching => simp only [hstate, if_true]
  | linked => simp only [hstate, reduceCtorEq, if_false]
  | lost => simp only [hstate, reduceCtorEq, if_false]

/-- Settles O46: the one slot that holds the kit ID is found, and bound. -/
theorem knownJoinBindsTheSlot : Obligations.KnownJoinBindsTheSlot := by
  intro s h i kit kitClass hp hkit hi hunique hhalf hv
  have hslot : s.slotOfKit kit = some i := State.slotOfKit_unique hi hunique
  subst hhalf
  exact ⟨_, congrArg Host.Outcome.next ((joinReceived_known hp hkit hslot hv kitClass).trans (s.bind_eq i _ kit kitClass)),
    rfl, rfl, fun hheld => Radio.placed_held hheld, fun hnew => Radio.placed_new hnew, rfl, rfl⟩

/-! ## Frames counted (R103, R104, R107, R181) -/

/-- R181: a frame that is not whole, or whose CRC is not that of its bytes, is damaged. -/
theorem judgeRadio_damaged {whole : Bool} {bytes : List Byte}
    (h : whole = false ∨ withCrc (bytes.take (bytes.length - 2)) ≠ bytes) : judgeRadio whole bytes = none := by
  rw [judgeRadio, if_pos]
  obtain rfl | hcrc := h
  · rfl
  · simp [hcrc]

theorem joinReceived_foreign {s : State} {arena : Byte} (h : s.radio.part ≠ .join ∨ arena ≠ s.radio.profile.arena)
    (kit : BitVec 32) (kitClass : Byte) : joinReceived arena kit kitClass s = s.countForeign := by
  rw [joinReceived]
  split
  case isTrue hp => rw [State.takeJoin, if_pos (h.resolve_left (not_not_intro hp))]
  case isFalse => rfl

theorem replyReceived_outside {s : State} (h : ∀ i seen good, s.radio.part ≠ .window i seen good) (arena slot : Byte)
    (kit : BitVec 32) (battery : BitVec 16) (status : Byte) (payload : List Byte) :
    replyReceived arena slot kit battery status payload s = s.countForeign := by
  cases hp : s.radio.part with
  | window i seen good => exact absurd hp (h i seen good)
  | _ => simp only [replyReceived, hp]

theorem replyReceived_further {s : State} {i : Fin 24} {good : Bool} (h : s.radio.part = .window i true good) (arena slot : Byte)
    (kit : BitVec 32) (battery : BitVec 16) (status : Byte) (payload : List Byte) :
    replyReceived arena slot kit battery status payload s = s := by
  simp only [replyReceived, h]

/-- R107: a JOIN of no active kit ID is counted, and reported unless the cycle has reported one. -/
theorem State.unknownJoin_eq (s : State) (kit : BitVec 32) (kitClass : Byte) :
    s.unknownJoin kit kitClass = { s with
      radio := { s.radio with
        unknownJoin := true, counters := { s.radio.counters with unknownJoins := bump s.radio.counters.unknownJoins } }
      trunk := if s.radio.unknownJoin then s.trunk else (s.report (.joinUnknown kit kitClass)).trunk } := by
  rw [State.unknownJoin]
  split
  case isTrue hreported =>
    have hflag : s.radio = { s.radio with unknownJoin := true } := by rw [← hreported]
    exact congrArg (fun r => s.setRadio fun _ =>
      { r with counters := { r.counters with unknownJoins := bump r.counters.unknownJoins } }) hflag
  case isFalse => rfl

/-- Settles O47: none of these frames reaches a slot; each is counted, or, after the REPLY accepted in a window, left alone. -/
theorem strayRadioFramesAreCounted : Obligations.StrayRadioFramesAreCounted := by
  refine ⟨fun s whole bytes hdamaged => congrArg Host.Outcome.next ?damaged,
    fun s arena kit kitClass hforeign => congrArg Host.Outcome.next (joinReceived_foreign hforeign kit kitClass),
    fun s arena slot kit battery status payload =>
      ⟨fun houtside => congrArg Host.Outcome.next (replyReceived_outside houtside arena slot kit battery status payload),
        fun i good hseen => congrArg Host.Outcome.next (replyReceived_further hseen arena slot kit battery status payload)⟩,
    fun s kit kitClass hp hkit hunknown => congrArg Host.Outcome.next ?unknown⟩
  case damaged =>
    rw [radioFrameDamaged, judgeRadio_damaged hdamaged]
    rfl
  case unknown =>
    rw [joinReceived, if_pos hp, State.takeJoin, if_neg (not_not_intro rfl), if_neg hkit, State.slotOfKit_none hunknown]
    exact s.unknownJoin_eq kit kitClass

/-! ## Liveness (R113) -/

/-- Settles O48: the one event of a running liveness timer that reaches 0. -/
theorem livenessExpiryLosesTheSlot : Obligations.LivenessExpiryLosesTheSlot := by
  refine fun s i hlinked hrunning => congrArg Host.Outcome.next ?_
  rw [livenessExpiry, if_pos ⟨hlinked, Option.isSome_iff_ne_none.mpr hrunning⟩]
  rfl

end Sys2Proof.Machine
end

section
/-! PROOFS. Sweeps and bus modes of the element bus, and the end of a transaction (R127, R128, R131, R132, R135, R136). -/

namespace Sys2Proof.Machine

/-! ## Sweeps (R127) -/

/-- R127: a sweep starts before its first element, and is over at once when there is none. -/
theorem State.startSweep_eq (s : State) : s.startSweep = { s with bus := { s.bus with
    sweeping := decide (∃ e, (s.entries.get e).enabled = true), position := none, elapsed := 0, due := false } } := by
  have hany : (allElements.any fun e => (s.entries.get e).enabled) = decide (∃ e, (s.entries.get e).enabled = true) := by
    rw [Bool.eq_iff_iff]
    simp [mem_allElements]
  rw [State.startSweep, hany]
  rfl

/-- R127: the element polled next is the lowest enabled one above the sweep position. -/
theorem State.nextElement_eq_some {s : State} {e : Fin 32} (henabled : (s.entries.get e).enabled = true)
    (habove : ∀ p, s.bus.position = some p → p < e)
    (hlowest : ∀ x, x < e → (s.entries.get x).enabled = true → ∃ p, s.bus.position = some p ∧ x ≤ p) :
    s.nextElement = some e := by
  rw [State.nextElement, allElements, ← Fin.find?_eq_find?_finRange, Fin.find?_eq_some_iff]
  cases hp : s.bus.position with
  | none =>
    refine ⟨by simp [henabled], fun x hx => ?_⟩
    by_contra hx'
    simpa [hp] using hlowest x hx (by simpa using hx')
  | some p =>
    refine ⟨by simp [henabled, habove p hp], fun x hx => ?_⟩
    by_contra hx'
    obtain ⟨hxenabled, hpx⟩ : (s.entries.get x).enabled = true ∧ p < x := by simpa using hx'
    obtain ⟨q, hq, hxq⟩ := hlowest x hx hxenabled
    rw [hp, Option.some.injEq] at hq
    exact absurd (hq ▸ hxq) (Fin.not_le.mpr hpx)

/-- R127: SWEEP_START waits for the sweep in progress. -/
theorem sweepStart_waits {s : State} (hauto : s.bus.actual = .auto) (hwait : s.bus.resetWait = false)
    (hsweep : s.bus.sweeping = true) : sweepStart s = { s with bus := { s.bus with due := true } } :=
  (if_pos ⟨hauto, hwait⟩).trans (if_pos hsweep)

theorem sweepStart_starts {s : State} (hauto : s.bus.actual = .auto) (hwait : s.bus.resetWait = false)
    (hsweep : s.bus.sweeping = false) : sweepStart s = s.startSweep :=
  (if_pos ⟨hauto, hwait⟩).trans (if_neg (by simp [hsweep]))

/-- R135: the reset wait ends with the first sweep in AUTO. -/
theorem busResetWaitEnd_starts {s : State} (hwait : s.bus.resetWait = true) (hauto : s.bus.actual = .auto)
    (hsweep : s.bus.sweeping = false) :
    busResetWaitEnd s = ({ s with bus := { s.bus with resetWait := false } } : State).startSweep :=
  (if_pos hwait).trans (if_pos ⟨hauto, hsweep⟩)

theorem busResetWaitEnd_resetWait {s : State} (hwait : s.bus.resetWait = true) : (busResetWaitEnd s).bus.resetWait = false := by
  rw [busResetWaitEnd, if_pos hwait]
  dsimp only
  split <;> rfl

/-- Settles O52: a sweep starts, waits, or begins with the end of the reset wait. -/
theorem sweepsStart : Obligations.SweepsStart := by
  refine ⟨fun s hauto hwait => ⟨sweepStart s, rfl, ?frame, fun hsweep => ?waits, fun hsweep => ?starts⟩,
    fun s hwait hauto => ⟨busResetWaitEnd s, rfl, ?waitFrame, busResetWaitEnd_resetWait hwait, fun hsweep => ?first⟩⟩
  case frame => apply State.eq_of_blocks <;> simp
  case waits => rw [sweepStart_waits hauto hwait hsweep]
  case starts =>
    rw [sweepStart_starts hauto hwait hsweep, State.startSweep_eq]
    exact ⟨rfl, rfl, decide_eq_true_iff⟩
  case waitFrame => apply State.eq_of_blocks <;> simp
  case first =>
    rw [busResetWaitEnd_starts hwait hauto hsweep, State.startSweep_eq]
    exact decide_eq_true_iff

/-! ## Bus modes (R131, R132) -/

/-- R131, R132: the change to MANUAL abandons the sweep in progress. -/
theorem State.applyMode_manual {s : State} (hactual : s.bus.actual = .auto) (hrequested : s.bus.requested = .manual) :
    s.applyMode = { s.report (.busMode .manual) with
      bus := { s.bus with actual := .manual, sweeping := false, position := none, due := false } } := by
  rw [State.applyMode, if_neg (by simp [hactual, hrequested]), hrequested]
  rfl

/-- R131, R132: the change to AUTO starts a sweep. -/
theorem State.applyMode_auto {s : State} (hactual : s.bus.actual = .manual) (hrequested : s.bus.requested = .auto) :
    s.applyMode = { s.report (.busMode .auto) with bus := { s.bus with
      actual := .auto, sweeping := decide (∃ e, (s.entries.get e).enabled = true), position := none, elapsed := 0
      due := false } } := by
  rw [State.applyMode, if_neg (by simp [hactual, hrequested]), hrequested]
  simp only [State.startSweep_eq]
  rfl

theorem State.applyMode_same {s : State} (h : s.bus.requested = s.bus.actual) : s.applyMode = s := if_pos h.symm

theorem decodeBusMode_none {b : Byte} (hb : 2 ≤ b.toNat) : decodeBusMode b = none := by
  obtain ⟨h0, h1⟩ := byte_ne_of_two_le hb
  rw [decodeBusMode, if_neg h0, if_neg h1]

/-- R132: what BUS_MODE leaves before the actual mode follows. -/
def State.busRequested (s : State) (tag : Byte) (m : BusMode) (period : Byte) : State :=
  { s.replied tag (if 5 ≤ period.toNat ∧ period.toNat ≤ 50 then .ok else .clamped) with
    bus := s.bus.request m (max 5 (min period.toNat 50)) }

/-- R132: what BUS_MODE answers for a mode of the code table. -/
theorem State.submit_busMode {s : State} (hs : s.Ready) (tag : Byte) (m : BusMode) (period : Byte) :
    s.submit tag (.command (.busMode (codeBusMode m) period)) =
      if s.bus.inFlight = .none then (s.busRequested tag m period).applyMode else s.busRequested tag m period := by
  have hcode : codeOf (decide (clampNat 5 50 period.toNat ≠ period.toNat)) =
      if 5 ≤ period.toNat ∧ period.toNat ≤ 50 then .ok else .clamped :=
    codeOf_decide (by simp only [clampNat]; omega)
  rw [State.submit_command hs, State.serveCommand, busModeVerdict, decodeBusMode_code, Verdict.need_some, State.carryOut_take,
    State.counted_answer, hcode]
  simp only [State.replied_keeps]
  rfl

/-- Settles O51: the request is stored first, and the actual mode follows it where the bus is free. -/
theorem busModeChangesTheMode : Obligations.BusModeChangesTheMode := by
  refine ⟨fun s tag mode period hs hmode => congrArg Host.Outcome.next ?badValue, fun s tag period m hs =>
    ⟨fun hstays => congrArg Host.Outcome.next ?stays, fun hfree hauto hm => congrArg Host.Outcome.next ?toManual,
      fun hfree hmanual hm => congrArg Host.Outcome.next ?toAuto⟩⟩
  case badValue =>
    rw [State.submit_command hs, State.serveCommand, busModeVerdict, decodeBusMode_none hmode, Verdict.need_none,
      State.carryOut_refuse, State.counted_answer]
  case stays =>
    rw [State.submit_busMode hs]
    by_cases hfree : s.bus.inFlight = .none
    · have hsame : s.bus.actual = m := hstays.resolve_left fun h => h hfree
      rw [if_pos hfree, State.applyMode_same (s := s.busRequested tag m period) hsame.symm]
      rfl
    · rw [if_neg hfree]
      rfl
  case toManual =>
    subst hm
    rw [State.submit_busMode hs, if_pos hfree, State.applyMode_manual (s := s.busRequested tag .manual period) hauto rfl]
    rfl
  case toAuto =>
    subst hm
    rw [State.submit_busMode hs, if_pos hfree, State.applyMode_auto (s := s.busRequested tag .auto period) hmanual rfl]
    rfl

/-! ## The end of a transaction (R127, R132) -/

/-- R127: neither the start nor the end of a sweep touches the transaction in flight or the answers counted. -/
theorem State.checkSweep_transaction (s : State) :
    s.checkSweep.bus.inFlight = s.bus.inFlight ∧ s.checkSweep.bus.badAnswers = s.bus.badAnswers := by
  rw [State.checkSweep, State.endSweep, State.startSweep_eq]
  repeat' split
  all_goals exact ⟨rfl, rfl⟩

theorem State.applyMode_transaction (s : State) :
    s.applyMode.bus.inFlight = s.bus.inFlight ∧ s.applyMode.bus.badAnswers = s.bus.badAnswers := by
  rw [State.applyMode]
  repeat' split
  all_goals exact ⟨rfl, rfl⟩

/-- R128: the bus is free after a transaction, and its end counts no answer. -/
theorem State.freeBus_transaction (s : State) :
    s.freeBus.bus.inFlight = .none ∧ s.freeBus.bus.badAnswers = s.bus.badAnswers := by
  simp [State.freeBus, State.checkSweep_transaction, State.applyMode_transaction]

/-- The bus with no transaction in flight. -/
def State.busFreed (s : State) : State := { s with bus := { s.bus with inFlight := .none } }

theorem State.freeBus_same {s : State} (h : s.bus.requested = s.bus.actual) : s.freeBus = s.busFreed.checkSweep :=
  congrArg State.checkSweep (State.applyMode_same (s := s.busFreed) h)

/-- R132: with no change of mode waiting, the end of a transaction reports nothing. -/
theorem State.freeBus_trunk {s : State} (h : s.bus.requested = s.bus.actual) : s.freeBus.trunk = s.trunk := by
  rw [State.freeBus_same h]
  simp [State.busFreed]

/-- R127, R132: with no change of mode waiting and no sweep in progress, the end of a transaction frees the bus and no more. -/
theorem State.freeBus_quiet {s : State} (h : s.bus.requested = s.bus.actual) (hsweep : s.bus.sweeping = false) :
    s.freeBus = s.busFreed :=
  (State.freeBus_same h).trans (if_neg fun hswept => absurd hswept.1 (by simp [State.busFreed, hsweep]))

/-! ## Bytes outside a transaction (R128, R135) -/

/-- Settles O57: with the bus free, the reset wait alone decides. -/
theorem strayBytesAreCounted : Obligations.StrayBytesAreCounted := by
  refine fun s bytes hfree => congrArg Host.Outcome.next ?_
  rw [strayBytes]
  cases hwait : s.bus.resetWait with
  | true => simp
  | false => exact if_pos ⟨hfree, rfl⟩

end Sys2Proof.Machine
end

section
/-! PROOFS. Polls begun and judged: effective values, good answers, missed polls (R121, R124, R127 to R130, 11.5). -/

namespace Sys2Proof.Machine

/-! ## Polls begun (R121, R124, R127, R128) -/

theorem sum8_withSum (bytes : List Byte) : sum8 (withSum bytes) = 0 := by
  simp [sum8, withSum]

/-- R127, R128: with the bus free in a sweep, the next element is polled. -/
theorem pollBegin_eq {s : State} {e : Fin 32} (hauto : s.bus.actual = .auto) (hwait : s.bus.resetWait = false)
    (hsweep : s.bus.sweeping = true) (hfree : s.bus.inFlight = .none) (hnext : s.nextElement = some e) :
    pollBegin s = s.beginPoll e := by
  rw [pollBegin, if_pos ⟨hauto, hwait, hsweep, hfree⟩, hnext]

/-- R128: a poll sends the effective values of the element's outputs. -/
theorem State.beginPoll_lastSent (s : State) (e : Fin 32) (k : Fin 2) :
    ((s.beginPoll e).elements.get e).lastSent.get k = s.effective e k := by
  simp [State.beginPoll]

theorem State.effective_stopped {s : State} {e : Fin 32} (hstop : (s.clocks.get (s.elementHalf e)).fieldStop = true) (k : Fin 2) :
    s.effective e k = ((s.entries.get e).outputs.get k).safe :=
  if_pos hstop

/-- R121, R124: while its half is not stopped, what an output sends follows from its mode state. -/
theorem State.effective_running {s : State} {e : Fin 32} {k : Fin 2} {x : OutputState}
    (hrunning : (s.clocks.get (s.elementHalf e)).fieldStop = false) (hx : (s.outputs.get e).get k = x) :
    s.effective e k = x.modeOutput ((s.entries.get e).outputs.get k) := by
  rw [State.effective, hrunning, State.modeOutput, hx]
  exact if_neg Bool.false_ne_true

/-- Settles O53: the element that the sweep finds is polled, and each output's mode says what it sends. -/
theorem pollCarriesTheEffectiveValues : Obligations.PollCarriesTheEffectiveValues := by
  intro s e hauto hwait hsweep hfree henabled habove hlowest
  have hnext : s.nextElement = some e := State.nextElement_eq_some henabled habove hlowest
  have hsent {k : Fin 2} {x : OutputState} (hrunning : (s.clocks.get (s.elementHalf e)).fieldStop = false)
      (hx : (s.outputs.get e).get k = x) :
      ((s.beginPoll e).elements.get e).lastSent.get k = x.modeOutput ((s.entries.get e).outputs.get k) :=
    (s.beginPoll_lastSent e k).trans (State.effective_running hrunning hx)
  refine ⟨s.beginPoll e, congrArg Host.Outcome.next (pollBegin_eq hauto hwait hsweep hfree hnext), rfl, rfl,
    ⟨-(sum8 [busAddress e, 0, s.effective e 0, s.effective e 1]), ?wire, sum8_withSum _⟩, fun hstop k => ?safe,
    fun hrunning k held hx => hsent hrunning hx, fun hrunning k => ⟨fun left hx => hsent hrunning hx,
      fun on hx => hsent hrunning hx, fun hx => hsent hrunning hx, fun position hx => hsent hrunning hx⟩,
    fun x hx => Tab.get_modify_ne _ _ hx.symm, rfl⟩
  case wire =>
    rw [s.beginPoll_lastSent e 0, s.beginPoll_lastSent e 1]
    rfl
  case safe => rw [s.beginPoll_lastSent e k, State.effective_stopped hstop]

/-! ## Answers judged (R128, R129, 11.5) -/

/-- R128: what a good answer of these bytes carries. -/
def pollReading (levels counters status : Byte) : PollReading :=
  { levels := .build fun k => levelOfBit (levels.getLsbD k.val), counters := .build fun k => counters.extractLsb' (4 * k.val) 4
    restarted := status.getLsbD 0 }

/-- R128: five whole bytes with sum 0 and the polled address are a good answer. -/
theorem judgePoll_good {e : Fin 32} {levels counters status check : Byte}
    (hsum : num8 (e.val + 1) + levels + counters + status + check = 0) :
    judgePoll e ⟨[num8 (e.val + 1), levels, counters, status, check], false⟩ = some (pollReading levels counters status) := by
  have hsum8 : sum8 [num8 (e.val + 1), levels, counters, status, check] = 0 := by simpa [sum8] using hsum
  simp [judgePoll, hsum8, busAddress, pollReading]

/-- R128: anything else is not. -/
theorem judgePoll_bad {e : Fin 32} {f : BusFrame} (hbad : f.stopBad = true ∨ f.bytes.length ≠ 5 ∨ sum8 f.bytes ≠ 0 ∨
    f.bytes.head? ≠ some (num8 (e.val + 1))) : judgePoll e f = none := by
  rw [judgePoll]
  split
  case h_1 address levels counters status check hbytes =>
    refine if_pos ?_
    rw [hbytes] at hbad
    rw [hbytes, Bool.or_eq_true, Bool.or_eq_true, decide_eq_true_iff, decide_eq_true_iff, or_assoc]
    simpa [busAddress] using hbad
  case h_2 => rfl

/-- R129: an element that answered well, before its readings go to the scoring unit. -/
def State.metOnline (s : State) (e : Fin 32) : State := { s with
  elements := s.elements.set e { s.elements.get e with misses := 0, online := .online }
  trunk := if (s.elements.get e).online = .online then s.trunk else (s.report (.elementState e .online)).trunk }

theorem State.goodAnswer_eq (s : State) (e : Fin 32) (r : PollReading) : s.goodAnswer e r = (s.metOnline e).readings e r := by
  refine congrArg (State.readings · e r) ?_
  by_cases hwas : (s.elements.get e).online = .online
  · simp only [State.metOnline, if_pos hwas]
    rfl
  · simp only [State.metOnline, if_neg hwas]
    rfl

/-- R153: an element with both sensors OFF has nothing to read. -/
theorem State.readings_off {s : State} {e : Fin 32} (hoff : ∀ k, ((s.entries.get e).sensors.get k).mode = .off)
    (r : PollReading) : s.readings e r = s := by
  simp only [State.readings, State.reading, hoff]

/-- R128, R132: a poll that is not void is judged, and frees the bus. -/
theorem pollEnd_eq {s : State} {e : Fin 32} (hpoll : s.bus.inFlight = .poll e false) (answer : Option BusFrame) :
    pollEnd answer s = (s.judgeAnswer e answer).freeBus := by
  rw [pollEnd, hpoll]
  rfl

/-- R128, R129: the end of a poll with a good answer. -/
theorem pollEnd_good {s : State} {e : Fin 32} {levels counters status check : Byte} (hpoll : s.bus.inFlight = .poll e false)
    (hsum : num8 (e.val + 1) + levels + counters + status + check = 0) :
    pollEnd (some ⟨[num8 (e.val + 1), levels, counters, status, check], false⟩) s =
      ((s.metOnline e).readings e (pollReading levels counters status)).freeBus := by
  rw [pollEnd_eq hpoll, ← State.goodAnswer_eq, State.judgeAnswer]
  simp only [judgePoll_good hsum]

/-- Settles O54: with nothing to read, a good answer is the element met ONLINE and the bus freed. -/
theorem goodAnswerMakesOnline : Obligations.GoodAnswerMakesOnline := by
  intro s e levels counters status check hpoll hsum hoff hmode
  have hend := pollEnd_good hpoll hsum
  rw [State.readings_off (s := s.metOnline e) hoff] at hend
  obtain ⟨hfree, hbad⟩ := (s.metOnline e).freeBus_transaction
  refine ⟨_, congrArg Host.Outcome.next hend, ?elements, State.freeBus_trunk hmode, hfree, hbad, ?frame⟩
  case elements => simp [State.metOnline]
  case frame => apply State.eq_of_blocks <;> simp [State.metOnline]

/-! ## Missed polls (R130) -/

/-- R136: the answer of a missed poll, if there was one, counted as bad. -/
def State.answerCounted (s : State) (answer : Option BusFrame) : State := { s with bus := { s.bus with
  badAnswers := if answer.isSome then bump s.bus.badAnswers else s.bus.badAnswers } }

@[simp] theorem State.answerCounted_keeps (s : State) (answer : Option BusFrame) :
    (s.answerCounted answer).tables = s.tables ∧ (s.answerCounted answer).clocks = s.clocks ∧
    (s.answerCounted answer).split = s.split ∧ (s.answerCounted answer).lines = s.lines ∧
    (s.answerCounted answer).slots = s.slots ∧ (s.answerCounted answer).stations = s.stations ∧
    (s.answerCounted answer).served = s.served ∧ (s.answerCounted answer).console = s.console ∧
    (s.answerCounted answer).radio = s.radio ∧ (s.answerCounted answer).links = s.links ∧
    (s.answerCounted answer).entries = s.entries ∧ (s.answerCounted answer).outputs = s.outputs ∧
    (s.answerCounted answer).elements = s.elements ∧ (s.answerCounted answer).claims = s.claims ∧
    (s.answerCounted answer).sensors = s.sensors ∧ (s.answerCounted answer).scores = s.scores ∧
    (s.answerCounted answer).trunk = s.trunk ∧ (s.answerCounted answer).pending = s.pending := by
  simp [State.answerCounted]

theorem State.judgeAnswer_missed {e : Fin 32} {answer : Option BusFrame}
    (hmissed : ∀ f, answer = some f → judgePoll e f = none) (s : State) : s.judgeAnswer e answer = (s.answerCounted answer).missedPoll e := by
  cases answer with
  | none => rfl
  | some f =>
    simp only [State.judgeAnswer, hmissed f rfl]
    rfl

/-- R130: below the third miss in a row. -/
theorem State.missedPoll_early {s : State} {e : Fin 32} (honline : (s.elements.get e).online ≠ .offline)
    (hmisses : (s.elements.get e).misses < 2) : s.missedPoll e = { s with elements := s.elements.set e { s.elements.get e with
      misses := (s.elements.get e).misses + 1, missedAnswers := bump (s.elements.get e).missedAnswers } } := by
  have hfew : (s.elements.get e).misses + 1 < 3 := by omega
  rw [State.missedPoll, if_neg honline, if_pos hfew]
  apply State.eq_of_blocks <;> simp [Tab.modify, Tab.set_set]

/-- R130: the element at the third miss in a row, before its claim is flushed. -/
def State.metOffline (s : State) (e : Fin 32) : State :=
  ({ s with elements := s.elements.set e { s.elements.get e with
      misses := 3, online := .offline, missedAnswers := bump (s.elements.get e).missedAnswers } } : State).report
    (.elementState e .offline)

theorem State.missedPoll_third {s : State} {e : Fin 32} (honline : (s.elements.get e).online ≠ .offline)
    (hmisses : 2 ≤ (s.elements.get e).misses) : s.missedPoll e = (s.metOffline e).flush .offline e := by
  have hmany : ¬ (s.elements.get e).misses + 1 < 3 := by omega
  rw [State.missedPoll, if_neg honline, if_neg hmany]
  refine congrArg (State.flush · .offline e) ?_
  apply State.eq_of_blocks <;> simp [State.metOffline, Tab.modify, Tab.set_set]

/-- R130: an OFFLINE element only counts. -/
theorem State.missedPoll_offline {s : State} {e : Fin 32} (hoffline : (s.elements.get e).online = .offline) :
    s.missedPoll e = { s with elements := s.elements.set e { s.elements.get e with
      missedAnswers := bump (s.elements.get e).missedAnswers } } :=
  if_pos hoffline

/-- R146: a flush leaves a claim that was held or waited for empty. -/
theorem Claim.flushed_of_busy {c : Claim} (h : c.holder ≠ none ∨ c.waiters ≠ []) : c.flushed = .empty :=
  if_neg fun hfree => h.elim (absurd hfree.1) (absurd hfree.2)

/-- R128, R130: the end of a poll without a good answer. -/
theorem pollEnd_missed {s : State} {e : Fin 32} {answer : Option BusFrame} (hpoll : s.bus.inFlight = .poll e false)
    (hbad : ∀ f, answer = some f → f.stopBad = true ∨ f.bytes.length ≠ 5 ∨ sum8 f.bytes ≠ 0 ∨
      f.bytes.head? ≠ some (num8 (e.val + 1))) : pollEnd answer s = ((s.answerCounted answer).missedPoll e).freeBus := by
  rw [pollEnd_eq hpoll, State.judgeAnswer_missed fun f hf => judgePoll_bad (hbad f hf)]

/-- Settles O56: each miss by the state of its element; a good answer; and the poll that an OFFLINE element still gets. -/
theorem missedPollCountsToOffline : Obligations.MissedPollCountsToOffline := by
  refine ⟨fun s e answer hpoll hbad => ?missed, fun s e levels counters status check hpoll hsum =>
    ⟨_, congrArg Host.Outcome.next (pollEnd_good hpoll hsum), ?good⟩,
    fun s e hoffline hauto hwait hsweep hfree henabled habove hlowest => ⟨s.beginPoll e, congrArg Host.Outcome.next
      (pollBegin_eq hauto hwait hsweep hfree (State.nextElement_eq_some henabled habove hlowest)), rfl, rfl⟩⟩
  case good => simp [State.metOnline]
  case missed =>
    have htrunk (hmode : s.bus.requested = s.bus.actual) : ((s.answerCounted answer).missedPoll e).freeBus.trunk =
        ((s.answerCounted answer).missedPoll e).trunk :=
      State.freeBus_trunk (by simpa [State.answerCounted] using hmode)
    obtain ⟨hfree, hcounted⟩ := ((s.answerCounted answer).missedPoll e).freeBus_transaction
    refine ⟨_, congrArg Host.Outcome.next (pollEnd_missed hpoll hbad), hfree, ?counted, fun honline hmisses => ?early,
      fun honline hmisses => ?third, fun hoffline => ?offline, ?frame⟩
    case counted => simpa [State.answerCounted] using hcounted
    case early =>
      have hmissed := State.missedPoll_early (s := s.answerCounted answer) honline hmisses
      exact ⟨by simp [hmissed], by simp [hmissed], by simp [hmissed], fun hmode => (htrunk hmode).trans (by simp [hmissed])⟩
    case offline =>
      have hmissed := State.missedPoll_offline (s := s.answerCounted answer) hoffline
      exact ⟨by simp [hmissed], by simp [hmissed], by simp [hmissed], fun hmode => (htrunk hmode).trans (by simp [hmissed])⟩
    case third =>
      have hmissed := State.missedPoll_third (s := s.answerCounted answer) honline hmisses
      have hclaims : ((s.answerCounted answer).missedPoll e).freeBus.claims = s.claims.set e (s.claims.get e).flushed := by
        simp [hmissed, State.flush_claims, State.metOffline]
      rw [hclaims]
      refine ⟨by simp [hmissed, State.metOffline], by simp, by simp, fun hbusy => ?emptied, fun y hy => ?others, ?console,
        fun hmode => (htrunk hmode).trans (by simp [hmissed, State.metOffline])⟩
      case emptied => rw [Tab.get_set_self, Claim.flushed_of_busy hbusy]
      case others => exact Tab.get_set_ne _ _ hy.symm
      case console => simp [hmissed, State.flush_console, State.metOffline]
    case frame => apply State.eq_of_blocks <;> simp

end Sys2Proof.Machine
end

section
/-! PROOFS. The element table: outputs, pulses, blinks, writes, and the polls that writes make void (R118, R119, R122, R123,
R125). -/

namespace Sys2Proof.Machine

/-! ## Outputs (R122, R123, R125) -/

/-- R125: what ELEMENT_OUTPUT answers for an element and an output that are there. -/
theorem State.submit_elementOutput {s : State} (hs : s.Ready) (tag : Byte) (e : Fin 32) (k : Fin 2) (value : Byte) :
    s.submit tag (.command (.elementOutput (num8 e.val) (num8 k.val) value)) =
      if (s.entries.get e).enabled = false ∨ (s.clocks.get (s.elementHalf e)).fieldStop = true then s.replied tag .wrongState
      else (s.replied tag .ok).applyOutput e k value := by
  rw [State.submit_command hs, State.serveCommand, elementOutputVerdict, decodeIndex_fin32, Verdict.need_some, decodeIndex_fin2,
    Verdict.need_some]
  cases henabled : (s.entries.get e).enabled <;> cases hstop : (s.clocks.get (s.elementHalf e)).fieldStop <;>
    simp [henabled, hstop]

theorem State.setOutput_eq (s : State) (e : Fin 32) (k : Fin 2) (f : OutputState → OutputState) : s.setOutput e k f = { s with
    outputs := s.outputs.set e ((s.outputs.get e).set k (f ((s.outputs.get e).get k))) } := rfl

/-- Settles O50: the checks of R125, the value applied as R122 has it, and the two expiries. -/
theorem outputsTakeValuesAndTime : Obligations.OutputsTakeValuesAndTime := by
  refine ⟨fun s tag value e k hs => ⟨fun hrefused => congrArg Host.Outcome.next ?refused,
      fun henabled hrunning =>
        ⟨(s.replied tag .ok).applyOutput e k value, congrArg Host.Outcome.next ?taken, rfl, ?applied⟩⟩,
    fun s tag element output value hs => ⟨fun he hk => congrArg Host.Outcome.next ?badIndex,
      fun he hk => congrArg Host.Outcome.next ?badValue⟩,
    fun s e k left hx => congrArg Host.Outcome.next ?pulse, fun s e k position hx => congrArg Host.Outcome.next ?blink⟩
  case refused => rw [State.submit_elementOutput hs, if_pos hrefused]
  case taken => rw [State.submit_elementOutput hs, if_neg (by simp [henabled, hrunning])]
  case applied =>
    obtain ⟨happlied, hothers⟩ := (s.replied tag .ok).applyOutput_applied e k value
    have hafter {x : OutputState} (hx : (s.outputs.get e).get k = x) : AppliedTo ((s.entries.get e).outputs.get k) value x
        ((((s.replied tag .ok).applyOutput e k value).outputs.get e).get k) := hx ▸ happlied
    exact ⟨hothers, fun held hx => hafter hx, fun left hx => hafter hx, fun on hx => hafter hx, fun position hx => hafter hx⟩
  case badIndex =>
    rw [State.submit_command hs, State.serveCommand, elementOutputVerdict, decodeIndex_none he, Verdict.need_none,
      State.carryOut_refuse, State.counted_answer]
  case badValue =>
    obtain ⟨e, rfl⟩ := exists_num8 he
    rw [State.submit_command hs, State.serveCommand, elementOutputVerdict, decodeIndex_fin32, Verdict.need_some,
      decodeIndex_none hk, Verdict.need_none, State.carryOut_refuse, State.counted_answer]
  case pulse =>
    rw [pulseExpiry, State.setOutput_eq, hx]
    rfl
  case blink =>
    rw [blinkPeriodEnd, State.setOutput_eq, hx]
    rfl

/-! ## Records of known codes (R117, R118) -/

theorem byte_ne_zero_iff (b : Byte) : b ≠ 0 ↔ 1 ≤ b.toNat := by bv_omega

/-- R118: every number of an output part lies in its range. -/
def outputInRange (r : OutputRecord) : Bool :=
  1 ≤ r.pulse.toNat && 10 ≤ r.period.toNat && 1 ≤ r.duty.toNat && r.duty.toNat ≤ 99

/-- R118: an output part of a mode as it is stored. -/
def storedOutput (r : OutputRecord) (kind : OutputMode) : OutputConfig :=
  ⟨kind, r.safe, max 1 r.pulse.toNat, max 10 r.period.toNat, max 1 (min r.duty.toNat 99)⟩

/-- R118: every number of an ELEMENT record lies in its range. -/
def elementInRange (r : ElementRecord) : Bool :=
  r.holdLimit.toNat ≤ 6000 && outputInRange (r.outputs.get 0) && outputInRange (r.outputs.get 1)

/-- R118: an ELEMENT record of known codes as it is stored. -/
def storedElement (r : ElementRecord) (enabled : Bool) (owner : Owner) (credit : Option Alliance)
    (modes : Fin 2 → SensorMode) (kinds : Fin 2 → OutputMode) : ElementEntry :=
  { enabled := enabled, owner := owner, credit := credit, mask := r.mask.extractLsb' 0 6, holdLimit := min r.holdLimit.toNat 6000
    holdPoints := r.holdPoints.toNat, sensors := .build fun k => ⟨modes k, (r.sensors.get k).points.toNat⟩
    outputs := .build fun k => storedOutput (r.outputs.get k) (kinds k) }

theorem sensorItem_code {r : SensorRecord} {mode : SensorMode} (h : r.mode = codeSensorMode mode) :
    sensorItem r = some ⟨mode, r.points.toNat⟩ := by
  rw [sensorItem, h, decodeSensorMode_code]
  rfl

theorem outputItem_code {r : OutputRecord} {kind : OutputMode} (h : r.mode = codeOutputMode kind) :
    outputItem r = some (storedOutput r kind) := by
  have hpulse : clampNat 1 255 r.pulse.toNat = max 1 r.pulse.toNat := by simp only [clampNat]; omega
  have hperiod : clampNat 10 255 r.period.toNat = max 10 r.period.toNat := by simp only [clampNat]; omega
  rw [outputItem, h, decodeOutputMode_code, hpulse, hperiod]
  rfl

theorem outputClamped_eq (r : OutputRecord) : outputClamped r = !outputInRange r := by
  rw [Bool.eq_iff_iff, outputClamped, decide_eq_true_iff, Bool.not_eq_true', ← Bool.not_eq_true, outputInRange]
  simp only [Bool.and_eq_true, decide_eq_true_eq, clampNat]
  omega

/-- R118: an ELEMENT record of known codes is stored, and clamped exactly when a number is out of its range. -/
theorem elementItem_code {r : ElementRecord} {enabled : Bool} {owner : Owner} {credit : Option Alliance}
    {modes : Fin 2 → SensorMode} {kinds : Fin 2 → OutputMode} (henabled : r.enabled = codeYN enabled)
    (howner : r.owner = codeOwner owner) (hcredit : r.credit = codeAlliance credit)
    (hmodes : ∀ k, (r.sensors.get k).mode = codeSensorMode (modes k))
    (hkinds : ∀ k, (r.outputs.get k).mode = codeOutputMode (kinds k)) :
    elementItem r = some (storedElement r enabled owner credit modes kinds, !elementInRange r) := by
  have hlimit : clampNat 0 6000 r.holdLimit.toNat = min r.holdLimit.toNat 6000 := by simp only [clampNat]; omega
  have hover : decide (min r.holdLimit.toNat 6000 ≠ r.holdLimit.toNat) = !decide (r.holdLimit.toNat ≤ 6000) := by
    rw [← decide_not, decide_eq_decide]
    omega
  have htwo {α : Type} (f : Fin 2 → α) : (Tab.build fun k => if k = 0 then f 0 else f 1) = Tab.build f :=
    congrArg Tab.build (funext fun k => by fin_cases k <;> rfl)
  simp only [elementItem, henabled, howner, hcredit, decodeYN_code, decodeOwner_code, decodeCredit_code,
    sensorItem_code (hmodes _), outputItem_code (hkinds _), hlimit, hover, outputClamped_eq, storedElement, elementInRange,
    Bool.not_and]
  rw [htwo fun k => SensorConfig.mk (modes k) (r.sensors.get k).points.toNat,
    htwo fun k => storedOutput (r.outputs.get k) (kinds k)]

/-- R118 check 4: a credit alliance is for a FIELD element, hold limit and hold points are for a SHARED one. -/
theorem recordConsistent_code {r : ElementRecord} {owner : Owner} {credit : Option Alliance} (howner : r.owner = codeOwner owner)
    (hcredit : r.credit = codeAlliance credit) (hfield : credit = none ∨ owner = .field)
    (hshared : (r.holdLimit = 0 ∧ r.holdPoints = 0) ∨ owner = .shared) : recordConsistent r = true := by
  have hcreditless : (r.credit == 0 || r.owner == 0) = true := by
    rw [howner, hcredit]
    rcases hfield with rfl | rfl <;> simp [codeAlliance, codeOwner]
  have hholdless : ((r.holdLimit == 0 && r.holdPoints == 0) || r.owner == 3) = true := by
    rw [howner]
    rcases hshared with ⟨hlimit, hpoints⟩ | rfl
    · simp [hlimit, hpoints]
    · simp [codeOwner]
  rw [recordConsistent, hcreditless, hholdless]
  rfl

/-! ## Writes (R118, R119) -/

/-- R118: what WRITE_ELEMENT answers for a consistent record of known codes. -/
theorem State.submit_writeElement {s : State} {e : Fin 32} {r : ElementRecord} {x : ElementEntry × Bool} (hs : s.Ready)
    (hrest : (s.clocks.get (s.elementHalf e)).state.started = false) (hitem : elementItem r = some x)
    (hconsistent : recordConsistent r = true) (tag clock : Byte) :
    s.submit tag (.write (.element clock (num8 e.val) r)) = (s.replied tag (codeOf x.2)).storeElement e x.1 := by
  rw [State.submit_write hs, TableWrite.verdict, writeElementVerdict, decodeIndex_fin32, Verdict.need_some]
  simp [hrest, hitem, hconsistent]

/-- R119: a write leaves both baselines of its element UNKNOWN, and the sensors of others as they were. -/
theorem State.storeElement_sensors (s : State) (e : Fin 32) (x : ElementEntry) :
    (∀ k, ((s.storeElement e x).sensors.get e).get k = { (s.sensors.get e).get k with baseline := none }) ∧
      ∀ y, y ≠ e → (s.storeElement e x).sensors.get y = s.sensors.get y :=
  ⟨fun k => by simp [State.storeElement], fun y hy => Tab.get_modify_ne _ _ hy.symm⟩

/-- R119: a poll of the written element becomes void. -/
theorem Transaction.voidFor_poll (e x : Fin 32) (void : Bool) :
    (Transaction.poll x void).voidFor e = .poll x (void || decide (x = e)) := rfl

/-- R119: a void poll frees the bus, whatever answer it gets. -/
theorem pollEnd_void {s : State} {e : Fin 32} (hpoll : s.bus.inFlight = .poll e true) (answer : Option BusFrame) :
    pollEnd answer s = s.freeBus := by
  rw [pollEnd, hpoll]
  rfl

/-- Settles O49: a record that passes the checks of R118, the two refusals before them, and the end of a void poll. -/
theorem elementWriteResetsTheElement : Obligations.ElementWriteResetsTheElement := by
  refine ⟨fun s tag clock e enabled owner credit mask limit holdPoints modes points kinds safe pulse period duty hs hrest hfield
      hshared => ?stored,
    fun s tag clock index record hs => ⟨fun hindex => congrArg Host.Outcome.next ?badIndex,
      fun e hindex hstarted => congrArg Host.Outcome.next ?wrongState⟩,
    fun s e answer hpoll => ⟨s.freeBus, congrArg Host.Outcome.next (pollEnd_void hpoll answer), s.freeBus_transaction.1,
      s.freeBus_transaction.2, State.freeBus_trunk, ?voided⟩⟩
  case stored =>
    intro entry inRange
    let r : ElementRecord :=
      { enabled := codeYN enabled, owner := codeOwner owner, credit := codeAlliance credit, mask := mask, holdLimit := limit
        holdPoints := holdPoints, sensors := .build fun k => ⟨codeSensorMode (modes k), points k⟩
        outputs := .build fun k => ⟨codeOutputMode (kinds k), safe k, pulse k, period k, duty k⟩ }
    have hitem : elementItem r = some (storedElement r enabled owner credit modes kinds, !elementInRange r) :=
      elementItem_code rfl rfl rfl (fun k => by simp [r]) (fun k => by simp [r])
    have hentry : storedElement r enabled owner credit modes kinds = entry := by
      simp [storedElement, storedOutput, r, entry]
    have hrange : elementInRange r = true ↔ inRange := by
      simp only [elementInRange, outputInRange, r, inRange, Fin.forall_fin_two, Tab.get_build, byte_ne_zero_iff,
        Bool.and_eq_true, decide_eq_true_eq, and_assoc]
    have hconsistent : recordConsistent r = true := recordConsistent_code rfl rfl hfield hshared
    rw [hentry] at hitem
    let t := (s.replied tag (codeOf (!elementInRange r))).storeElement e entry
    obtain ⟨hbaselines, hothers⟩ := (s.replied tag (codeOf (!elementInRange r))).storeElement_sensors e entry
    refine ⟨t, codeOf (!elementInRange r),
      congrArg Host.Outcome.next (State.submit_writeElement hs hrest hitem hconsistent tag clock), fun hin => ?ok,
      fun hout => ?clamped, ?effect, hbaselines, hothers, fun void hpoll => ?voids, fun x void hx hpoll => ?others⟩
    case ok => rw [codeOf_not, if_pos (hrange.mpr hin)]
    case clamped => rw [codeOf_not, if_neg (hrange.not.mpr hout)]
    case effect => rfl
    case voids =>
      show s.bus.inFlight.voidFor e = _
      simp [hpoll, Transaction.voidFor_poll]
    case others =>
      show s.bus.inFlight.voidFor e = _
      simp [hpoll, Transaction.voidFor_poll, hx]
  case badIndex =>
    rw [State.submit_write hs, TableWrite.verdict, writeElementVerdict, decodeIndex_none hindex, Verdict.need_none,
      State.carryOut_refuse, State.counted_answer]
  case wrongState =>
    rw [hindex, State.submit_write hs, TableWrite.verdict, writeElementVerdict, decodeIndex_fin32, Verdict.need_some]
    simp [hstarted]
  case voided => apply State.eq_of_blocks <;> simp

end Sys2Proof.Machine
end

section
/-! PROOFS. Pass-through on the element bus (R133, R134, R168, R172, 11.5). -/

namespace Sys2Proof.Machine

/-! ## PASS taken or refused (R133, R168, R172) -/

/-- R167: a PASS frame carries its request when it holds the number of bytes that it declares. -/
theorem parse_pass {count : Byte} {bytes : List Byte} (hcount : bytes.length = count.toNat) (tag address expected : Byte) :
    parseRequest ((Request.pass address count expected bytes).frame tag) = .ok (.pass address count expected bytes) :=
  if_pos hcount

/-- R168: a PASS on a ready trunk port with no REPLY waiting is served at once. -/
theorem State.submit_pass {s : State} {count : Byte} {bytes : List Byte} (hs : s.Ready) (hreplies : s.trunk.replies = [])
    (hcount : bytes.length = count.toNat) (hfits : bytes.length ≤ 250) (tag address expected : Byte) :
    s.submit tag (.pass address count expected bytes) = s.counted.servePass tag address count expected bytes := by
  have hlength : ((Request.pass address count expected bytes).frame tag).body.length + 2 ≤ 255 := by
    simp only [Request.frame, List.length_cons]
    omega
  have hdispatch : s.trunk.mayDispatch ((Request.pass address count expected bytes).frame tag) = true := by
    simp [Trunk.mayDispatch, hreplies]
  rw [State.submit, if_pos hlength, State.dispatchFrames_ready s _ hs.1 hdispatch, State.dispatch, parse_pass hcount]
  rfl

/-- R133: the ranges of a PASS. -/
def PassInRange (address count expected : Byte) : Prop :=
  1 ≤ address.toNat ∧ address.toNat ≤ 32 ∧ 1 ≤ count.toNat ∧ count.toNat ≤ 8 ∧ expected.toNat ≤ 8

theorem State.passRefusal_badValue {address count expected : Byte} (hrange : ¬ PassInRange address count expected) (s : State) :
    s.passRefusal address count expected = some .badValue :=
  if_pos (by
    rw [Bool.not_eq_true', ← Bool.not_eq_true]
    simpa only [Bool.and_eq_true, decide_eq_true_eq, PassInRange, and_assoc] using hrange)

/-- R133: a PASS within its ranges is a matter of the actual mode and the transaction in flight. -/
theorem State.passRefusal_inRange {address count expected : Byte} (hrange : PassInRange address count expected) (s : State) :
    s.passRefusal address count expected = if s.bus.actual ≠ .manual then some .wrongState
      else if ∃ a b c, s.bus.inFlight = .pass a b c then some .busy else none := by
  obtain ⟨ha, ha', hc, hc', he⟩ := hrange
  rw [State.passRefusal, if_neg (by simp [ha, ha', hc, hc', he])]
  cases s.bus.inFlight <;> simp

theorem State.servePass_refused {s : State} {address count expected : Byte} {code : ResultCode}
    (h : s.passRefusal address count expected = some code) (tag : Byte) (bytes : List Byte) :
    s.servePass tag address count expected bytes = s.answer tag code [] := by
  rw [State.servePass, h]

theorem State.servePass_taken {s : State} {address count expected : Byte} {bytes : List Byte}
    (h : s.passRefusal address count expected = none) (hcount : bytes.length = count.toNat) (tag : Byte) :
    s.servePass tag address count expected bytes = { s with bus := { s.bus with
      inFlight := .pass tag address expected, wire := withSum (address :: count :: bytes) } } := by
  have hlength : num8 bytes.length = count := by rw [hcount, num8, BitVec.ofNat_toNat, BitVec.setWidth_eq]
  rw [State.servePass, h, ← hlength]
  rfl

/-! ## The end of a PASS (R134, R172, R173) -/

/-- R134: the address, the expected number of bytes and a sum of 0 are a good answer. -/
theorem judgePass_good {address expected check : Byte} {data : List Byte} (hlength : data.length = expected.toNat)
    (hsum : sum8 (address :: data ++ [check]) = 0) :
    judgePass address expected ⟨address :: data ++ [check], false⟩ = some data := by
  have hwhole : sum8 (address :: (data ++ [check])) = 0 := hsum
  simp [judgePass, hwhole, hlength]

/-- R173: an idle trunk port on which nothing waits begins a REPLY at once. -/
def State.replyBegun (s : State) (r : Reply) : State := { s with trunk := { s.trunk with tx := .reply, wire := r.bytes } }

theorem State.reply_idle {s : State} (htx : s.trunk.tx = .idle) (hreplies : s.trunk.replies = []) (r : Reply) :
    s.reply r = s.replyBegun r := by
  have hchosen : ({ s.trunk with replies := s.trunk.replies ++ [r] } : Trunk).choose =
      { s.trunk with tx := .reply, wire := r.bytes } := by
    simp [Trunk.choose, htx, hreplies]
  exact congrArg (fun t => { s with trunk := t }) hchosen

theorem State.pump_empty {s : State} (h : s.trunk.buffer = []) : s.pump = s := by
  rw [State.pump, h]
  rfl

/-- R132, R134, R168: with no change of mode, no sweep and no frame waiting, nothing follows the judgement of a PASS. -/
theorem passEnd_eq {s t : State} {tag address expected : Byte} {answer : Option BusFrame}
    (hpass : s.bus.inFlight = .pass tag address expected) (hjudged : s.judgePassEnd tag address expected answer = t)
    (hmode : t.bus.requested = t.bus.actual) (hsweep : t.bus.sweeping = false) (hbuffer : t.trunk.buffer = []) :
    passEnd answer s = t.busFreed := by
  rw [passEnd, State.endPass, hpass]
  simp only [hjudged, State.freeBus_quiet hmode hsweep]
  exact State.pump_empty hbuffer

/-- Settles O58: the checks of R133 in their order, and the deferred REPLY of each outcome of R134. -/
theorem passIsTakenAndAnswered : Obligations.PassIsTakenAndAnswered := by
  refine ⟨fun s tag address count expected bytes hs hreplies ha ha' hc hc' he hcount => ?inRange,
    fun s tag address count expected bytes hs hreplies hcount hfits hrange => congrArg Host.Outcome.next ?outOfRange,
    fun s tag address expected hpass hbuffer htx hreplies hmode hsweep => ?ended⟩
  case inRange =>
    have hserved := State.submit_pass hs hreplies hcount (by omega) tag address expected
    have hrefusal := s.counted.passRefusal_inRange (expected := expected) ⟨ha, ha', hc, hc', he⟩
    refine ⟨fun hmanual hfree => congrArg Host.Outcome.next (hserved.trans ?taken),
      fun hauto => congrArg Host.Outcome.next (hserved.trans ?wrongState),
      fun a b c hmanual hpass => congrArg Host.Outcome.next (hserved.trans ?busy)⟩
    case taken => exact State.servePass_taken (hrefusal.trans (by simp [hmanual, hfree])) hcount tag
    case wrongState => exact State.servePass_refused (hrefusal.trans (by simp [hauto])) tag bytes
    case busy => exact State.servePass_refused (hrefusal.trans (by simp [hmanual, hpass])) tag bytes
  case outOfRange =>
    exact (State.submit_pass hs hreplies hcount hfits tag address expected).trans
      (State.servePass_refused (State.passRefusal_badValue hrange _) tag bytes)
  case ended =>
    refine ⟨fun hnone => congrArg Host.Outcome.next
        (passEnd_eq (t := s.replyBegun ⟨tag, .ok, [], true⟩) hpass ?silent hmode hsweep hbuffer),
      fun data check hsome hlength hsum => congrArg Host.Outcome.next
        (passEnd_eq (t := s.replyBegun ⟨tag, .ok, data, true⟩) hpass ?good hmode hsweep hbuffer),
      fun hsome => congrArg Host.Outcome.next (passEnd_eq (t := { s.replyBegun ⟨tag, .timeout, [], true⟩ with
        bus := { s.bus with passTimeouts := bump s.bus.passTimeouts } }) hpass ?timeout hmode hsweep hbuffer)⟩
    case silent => rw [State.judgePassEnd, if_pos hnone, State.reply_idle htx hreplies]
    case good =>
      rw [State.judgePassEnd, if_neg hsome, Option.bind_some, judgePass_good hlength hsum]
      exact State.reply_idle htx hreplies _
    case timeout =>
      rw [State.judgePassEnd, if_neg hsome, State.reply_idle htx hreplies]
      rfl

end Sys2Proof.Machine
end

section
/-! PROOFS. The expiry of a hold timer, and CLAIM_RESET (R143, R144, R146, R151). -/

namespace Sys2Proof.Machine

/-! ## HOLD_TIMER_EXPIRY (R143, R144) -/

theorem Claim.promoted_nil {c : Claim} (h : c.waiters = []) (limit : Nat) : c.promoted limit = .empty := by
  simp only [Claim.promoted, h]

theorem Claim.promoted_cons {c : Claim} {w : Fin 12} {rest : List (Fin 12)} (h : c.waiters = w :: rest) (limit : Nat) :
    c.promoted limit =
      { holder := some w, waiters := rest, accumulator := 0, timer := if limit = 0 then none else some limit } := by
  simp only [Claim.promoted, h]

theorem holdTimerExpiry_eq {s : State} {e : Fin 32} {left : Nat}
    (hrunning : (s.clocks.get (s.elementHalf e)).state = .running) (htimer : (s.claims.get e).timer = some left) :
    holdTimerExpiry e s = s.expireHold e :=
  if_pos ⟨hrunning, Option.isSome_of_eq_some htimer⟩

/-- R144: an expiry reaches the claims and the console lines only. -/
theorem State.expireHold_frame (s : State) (e : Fin 32) :
    s.expireHold e = { s with claims := (s.expireHold e).claims, console := (s.expireHold e).console } := by
  apply State.eq_of_blocks <;> simp

/-! ## CLAIM_RESET (R146, R151) -/

/-- R146: a flush of an element that nobody holds or waits for. -/
theorem State.flush_idle {s : State} {e : Fin 32} (hholder : (s.claims.get e).holder = none)
    (hwaiters : (s.claims.get e).waiters = []) (reason : ClaimReason) : s.flush reason e = s :=
  if_pos ⟨hholder, hwaiters⟩

/-- R146: a flush reaches the claims and the console lines only. -/
theorem State.flush_frame (s : State) (reason : ClaimReason) (e : Fin 32) :
    s.flush reason e = { s with claims := (s.flush reason e).claims, console := (s.flush reason e).console } := by
  apply State.eq_of_blocks <;> simp

/-- R146: with nobody waiting, the holder alone is answered. -/
theorem flushAnswers_holder {c : Claim} {n : Fin 12} (hholder : c.holder = some n) (hwaiters : c.waiters = [])
    (reason : ClaimReason) (e : Fin 32) (console : Tab 12 ConsoleLine) : flushAnswers reason e c console =
      console.modify n (·.pushReply (.elementReply (num8 e.val) (.released reason))) := by
  simp only [flushAnswers, hholder, hwaiters, List.foldl_nil]

/-- R151: what CLAIM_RESET does for an element, whatever the state of its clock. -/
theorem State.submit_claimReset {s : State} (hs : s.Ready) (tag : Byte) (e : Fin 32) :
    s.submit tag (.command (.claimReset (num8 e.val))) = (s.replied tag .ok).flush .referee e := by
  rw [State.submit_command hs, State.serveCommand, claimResetVerdict, decodeIndex_fin32, Verdict.need_some,
    State.carryOut_take, State.counted_answer]

/-- Settles O59: an expiry promotes, and CLAIM_RESET flushes the replied state. -/
theorem holdExpiryAndClaimResetFreeTheElement : Obligations.HoldExpiryAndClaimResetFreeTheElement := by
  refine ⟨fun s e n left hrunning htimer hholder => ⟨s.expireHold e,
      congrArg Host.Outcome.next (holdTimerExpiry_eq hrunning htimer), fun hnone => ?freed, fun w rest hhead => ?promoted,
      s.expireHold_frame e⟩,
    fun s tag e hs => ⟨fun hholder hwaiters => congrArg Host.Outcome.next ?idle,
      fun n hholder => ⟨(s.replied tag .ok).flush .referee e, congrArg Host.Outcome.next (State.submit_claimReset hs tag e),
        ?emptied, fun hwaiters => ?told, (s.replied tag .ok).flush_frame .referee e⟩⟩⟩
  case freed => rw [s.expireHold_claims e n hholder, Claim.promoted_nil hnone]
  case promoted => rw [s.expireHold_claims e n hholder, Claim.promoted_cons hhead]
  case idle =>
    exact (State.submit_claimReset hs tag e).trans (State.flush_idle (s := s.replied tag .ok) hholder hwaiters .referee)
  case emptied =>
    have hbusy : (s.claims.get e).holder ≠ none ∨ (s.claims.get e).waiters ≠ [] := .inl (by simp [hholder])
    rw [State.flush_claims]
    exact congrArg (s.claims.set e) (Claim.flushed_of_busy hbusy)
  case told => exact (State.flush_console _ _ e).trans (flushAnswers_holder hholder hwaiters .referee e s.console)

end Sys2Proof.Machine
end

section
/-! PROOFS. CAPTURE_CLEAR and SCORE_ADJUST (R157, R159, R160). -/

namespace Sys2Proof.Machine

/-! ## CAPTURE_CLEAR (R157) -/

/-- R157: what CAPTURE_CLEAR answers for an element and a sensor that are there. -/
theorem State.submit_captureClear {s : State} (hs : s.Ready) (tag : Byte) (e : Fin 32) (k : Fin 2) :
    s.submit tag (.command (.captureClear (num8 e.val) (num8 k.val))) =
      (s.replied tag .ok).setSensor e k fun x => { x with captured := false, captureTime := 0 } := by
  rw [State.submit_command hs, State.serveCommand, captureClearVerdict, decodeIndex_fin32, Verdict.need_some,
    decodeIndex_fin2, Verdict.need_some, State.carryOut_take, State.counted_answer]

/-! ## SCORE_ADJUST (R159, R160) -/

theorem decodeAlliance_none {b : Byte} (hred : b ≠ 1) (hblue : b ≠ 2) : decodeAlliance b = none := by
  rw [decodeAlliance, if_neg hred, if_neg hblue]

theorem exists_codeAlliance {b : Byte} (hb : b = 1 ∨ b = 2) : ∃ side : Alliance, b = codeAlliance (some side) :=
  hb.elim (fun hred => ⟨.red, hred⟩) fun hblue => ⟨.blue, hblue⟩

/-- R160: with both operands in the code tables, split mode is tested before the state of the clock. -/
theorem scoreAdjustVerdict_code (h : Half) (side : Alliance) (delta : BitVec 16) (s : State) :
    scoreAdjustVerdict (codeHalf h) (codeAlliance (some side)) delta s =
      if (h = .a ∨ s.split = true) ∧ (s.clocks.get h).state ≠ .idle then
        .take (codeOf (decide (clampInt (-1000) 1000 delta.toInt ≠ delta.toInt)))
          fun t => t.setScores h (·.adjust (clampInt (-1000) 1000 delta.toInt) side)
      else .refuse .wrongState := by
  rw [scoreAdjustVerdict, decodeHalf_code, Verdict.need_some, decodeAlliance_code, Verdict.need_some]
  by_cases hsplit : h = .a ∨ s.split = true
  · have hthere : (decide (h = .a) || s.split) = true := by simpa using hsplit
    by_cases hidle : (s.clocks.get h).state = .idle <;> simp [hthere, hsplit, hidle]
  · have habsent : (decide (h = .a) || s.split) = false := by simpa using hsplit
    simp [habsent, hsplit]

/-- R160: what SCORE_ADJUST answers for a clock and an alliance of the code tables. -/
theorem State.submit_scoreAdjust {s : State} (hs : s.Ready) (tag : Byte) (h : Half) (side : Alliance) (delta : BitVec 16) :
    s.submit tag (.command (.scoreAdjust (codeHalf h) (codeAlliance (some side)) delta)) =
      if (h = .a ∨ s.split = true) ∧ (s.clocks.get h).state ≠ .idle then
        (s.replied tag (codeOf (decide (clampInt (-1000) 1000 delta.toInt ≠ delta.toInt)))).setScores h
          (·.adjust (clampInt (-1000) 1000 delta.toInt) side)
      else s.replied tag .wrongState := by
  rw [State.submit_command hs, State.serveCommand, scoreAdjustVerdict_code]
  exact apply_ite (s.counted.carryOut tag) _ _ _

/-- Settles O60: each command passes its checks one by one, or stops at the first that fails. -/
theorem captureClearAndScoreAdjust : Obligations.CaptureClearAndScoreAdjust := by
  refine ⟨fun s tag e k hs => congrArg Host.Outcome.next (State.submit_captureClear hs tag e k),
    fun s tag element sensor hs => ⟨fun he hk => congrArg Host.Outcome.next ?badIndex,
      fun he hk => congrArg Host.Outcome.next ?badSensor⟩,
    fun s tag h side delta hs hthere => congrArg Host.Outcome.next ?adjusted,
    fun s tag clock alliance delta hs => ⟨fun hclock => congrArg Host.Outcome.next ?badClock,
      fun h hclock hthere hidle halliance => congrArg Host.Outcome.next ?badAlliance,
      fun hclock hwhole halliance => congrArg Host.Outcome.next ?noClock⟩⟩
  case badIndex =>
    rw [State.submit_command hs, State.serveCommand, captureClearVerdict, decodeIndex_none he, Verdict.need_none,
      State.carryOut_refuse, State.counted_answer]
  case badSensor =>
    obtain ⟨e, rfl⟩ := exists_num8 he
    rw [State.submit_command hs, State.serveCommand, captureClearVerdict, decodeIndex_fin32, Verdict.need_some,
      decodeIndex_none hk, Verdict.need_none, State.carryOut_refuse, State.counted_answer]
  case adjusted =>
    rw [State.submit_scoreAdjust hs]
    by_cases hidle : (s.clocks.get h).state = .idle
    · rw [if_neg (by simp [hidle]), if_pos hidle]
    · rw [if_pos ⟨hthere, hidle⟩, if_neg hidle, codeOf_decide Iff.rfl]
      cases side <;> rfl
  case badClock =>
    rw [State.submit_command hs, State.serveCommand, scoreAdjustVerdict, decodeHalf, if_neg hclock.1, if_neg hclock.2,
      Verdict.need_none, State.carryOut_refuse, State.counted_answer]
  case badAlliance =>
    rw [hclock, State.submit_command hs, State.serveCommand, scoreAdjustVerdict, decodeHalf_code, Verdict.need_some,
      decodeAlliance_none halliance.1 halliance.2, Verdict.need_none, State.carryOut_refuse, State.counted_answer]
  case noClock =>
    obtain ⟨side, rfl⟩ := exists_codeAlliance halliance
    rw [show clock = codeHalf .b from hclock, State.submit_scoreAdjust hs, if_neg (by simp [hwhole])]

end Sys2Proof.Machine
end

section
/-! PROOFS. The records that tell of a sensor's events (R161). -/

namespace Sys2Proof.Machine

theorem Trunk.unbegun_eq (t : Trunk) : t.unbegun = if t.tx = .report then t.reports.tail else t.reports := by
  rw [Trunk.unbegun, List.drop_one]

theorem State.reportEvent_trunk_congr {s t : State} (htrunk : t.trunk = s.trunk) (e : Fin 32) (k : Fin 2) (n : Nat) (level : Level)
    (captured : Bool) (time : Nat) :
    (t.reportEvent e k n level captured time).trunk = (s.reportEvent e k n level captured time).trunk := by
  simp only [State.reportEvent, htrunk]
  split
  case isTrue => simp only [State.setTrunk, htrunk]
  case isFalse => exact State.report_trunk_congr htrunk _

/-- R161: with no record of the sensor waiting, its event is queued. -/
theorem State.reportEvent_queued {s : State} {e : Fin 32} {k : Fin 2}
    (hnone : ∀ r ∈ s.trunk.unbegun, r.report.isEvent e k = false) (n : Nat) (level : Level) (captured : Bool) (time : Nat) :
    s.reportEvent e k n level captured time = s.report (.elementEvent e k n level captured time) :=
  if_neg (by simpa using hnone)

theorem coalesce_skip {e : Fin 32} {k : Fin 2} {r : Record} (hr : r.report.isEvent e k = false) (n : Nat) (level : Level)
    (captured : Bool) (time : Nat) (rest : List Record) :
    coalesce e k n level captured time (r :: rest) = r :: coalesce e k n level captured time rest := by
  rw [coalesce]
  split
  case h_1 e' k' delta was had before hreport =>
    have hother : ¬ (e' = e ∧ k' = k) := by simpa [hreport, Report.isEvent] using hr
    exact if_neg hother
  case h_2 => rfl

/-- R161: the first record of the sensor takes its event up. -/
theorem coalesce_first {e : Fin 32} {k : Fin 2} {seq : BitVec 16} {delta n : Nat} {was level : Level} {had captured : Bool}
    {old time : Nat} {after : List Record} : ∀ {before : List Record}, (∀ r ∈ before, r.report.isEvent e k = false) →
      coalesce e k n level captured time (before ++ ⟨seq, .elementEvent e k delta was had old⟩ :: after) =
        before ++ ⟨seq, .elementEvent e k (min (delta + n) 255) level captured time⟩ :: after
  | [], _ => if_pos ⟨rfl, rfl⟩
  | r :: rest, hbefore => by
    obtain ⟨hr, hrest⟩ := List.forall_mem_cons.mp hbefore
    rw [List.cons_append, coalesce_skip hr, coalesce_first hrest, List.cons_append]

/-- R161: a record of the sensor that waits takes its event up in its place. -/
theorem State.reportEvent_taken {s : State} {e : Fin 32} {k : Fin 2} {seq : BitVec 16} {delta old : Nat} {was : Level} {had : Bool}
    {before after : List Record} (hwaiting : s.trunk.unbegun = before ++ ⟨seq, .elementEvent e k delta was had old⟩ :: after)
    (hbefore : ∀ r ∈ before, r.report.isEvent e k = false) (n : Nat) (level : Level) (captured : Bool) (time : Nat) :
    s.reportEvent e k n level captured time = { s with trunk := { s.trunk with
      reports := s.trunk.begun ++ before ++ ⟨seq, .elementEvent e k (min (delta + n) 255) level captured time⟩ :: after } } := by
  have hthere : s.trunk.unbegun.any (·.report.isEvent e k) = true := by simp [hwaiting, Report.isEvent]
  rw [State.reportEvent, if_pos hthere, State.setTrunk, hwaiting, coalesce_first hbefore, List.append_assoc]

end Sys2Proof.Machine
end

section
/-! PROOFS. Poll readings at the scoring unit: events, captures and points (R153 to R156, R158, R161). -/

namespace Sys2Proof.Machine

/-! ## Events and captures of one sensor (R154, R156) -/

/-- R154: the difference of the counter from its baseline modulo 16. -/
theorem Sensor.newEvents_eq (x : Sensor) (restarted : Bool) (counter : BitVec 4) : x.newEvents restarted counter =
    if restarted then 0
    else match x.baseline with
      | some base => (counter.toNat + 16 - base.toNat) % 16
      | none => 0 := by
  rw [Sensor.newEvents]
  cases x.baseline with
  | none => rfl
  | some base =>
    have hdifference : (counter - base).toNat = (counter.toNat + 16 - base.toNat) % 16 := by bv_omega
    simp [hdifference]

/-- R156: whether `n` events of a sensor are captured. -/
def Sensor.captures (x : Sensor) (n : Nat) (c : Clock) : Bool := n ≠ 0 && c.state.started && !x.captured

/-- R156: a sensor with `n` events captured, if they are. -/
def Sensor.noticed (x : Sensor) (n : Nat) (c : Clock) : Sensor := { x with
  captured := x.captured || x.captures n c, captureTime := if x.captures n c then c.elapsed else x.captureTime }

@[simp] theorem Sensor.noticed_zero (x : Sensor) (c : Clock) : x.noticed 0 c = x := by
  simp [Sensor.noticed, Sensor.captures]

theorem Sensor.capture_eq (x : Sensor) {n : Nat} (hn : n ≠ 0) (c : Clock) : x.capture c = x.noticed n c := by
  have hcaptures : x.captures n c = (c.state.started && !x.captured) := by simp [Sensor.captures, hn]
  rw [Sensor.capture, Sensor.noticed, hcaptures]
  cases hfirst : c.state.started && !x.captured <;> simp

/-! ## Points (R158) -/

/-- R158: the scores with the points for `n` events of a sensor. -/
def State.scored (s : State) (e : Fin 32) (k : Fin 2) (n : Nat) : PerHalf Scores :=
  if n ≠ 0 ∧ (s.clocks.get (s.elementHalf e)).state.started = true then
    s.scores.set (s.elementHalf e) ((s.scores.get (s.elementHalf e)).plus (n * ((s.entries.get e).sensors.get k).points)
      (s.creditSide e))
  else s.scores

@[simp] theorem State.scored_zero (s : State) (e : Fin 32) (k : Fin 2) : s.scored e k 0 = s.scores := if_neg fun h => h.1 rfl

theorem State.creditEvents_eq (s : State) (e : Fin 32) (k : Fin 2) {n : Nat} (hn : n ≠ 0) :
    s.creditEvents e k n = { s with scores := s.scored e k n } := by
  rw [State.creditEvents, State.scored]
  cases hstarted : (s.clocks.get (s.elementHalf e)).state.started with
  | false => simp
  | true =>
    rw [if_pos rfl, if_pos ⟨hn, rfl⟩]
    cases s.creditSide e with
    | none => simp [Scores.plus]
    | some side => cases side <;> rfl

/-! ## One reading (R153 to R156) -/

/-- R154 to R156, R158, R161: the state in which a sensor was read, with `n` events, and its events were told. -/
def State.sensed (s : State) (e : Fin 32) (k : Fin 2) (n : Nat) (y : Sensor) (scores : PerHalf Scores) : State := { s with
  sensors := s.sensors.set e ((s.sensors.get e).set k y), scores := scores
  trunk := if n = 0 then s.trunk else (s.reportEvent e k n y.level y.captured y.captureTime).trunk }

theorem State.setSensor_eq (s : State) (e : Fin 32) (k : Fin 2) (f : Sensor → Sensor) : s.setSensor e k f = { s with
    sensors := s.sensors.set e ((s.sensors.get e).set k (f ((s.sensors.get e).get k))) } := rfl

theorem State.setSensor_setSensor (s : State) (e : Fin 32) (k : Fin 2) (f g : Sensor → Sensor) :
    (s.setSensor e k f).setSensor e k g = s.setSensor e k fun x => g (f x) := by
  simp [State.setSensor_eq, Tab.set_set]

theorem State.sensed_quiet (s : State) (e : Fin 32) (k : Fin 2) (f : Sensor → Sensor) :
    s.setSensor e k f = s.sensed e k 0 (f ((s.sensors.get e).get k)) s.scores := rfl

/-- R161: an event is told of the sensor as it was read. -/
theorem State.tellEvent_sensed (s : State) (e : Fin 32) (k : Fin 2) {n : Nat} (hn : n ≠ 0) (f : Sensor → Sensor)
    (scores : PerHalf Scores) :
    ({ s.setSensor e k f with scores := scores } : State).tellEvent e k n =
      s.sensed e k n (f ((s.sensors.get e).get k)) scores := by
  apply State.eq_of_blocks
  case trunk =>
    simp only [State.sensed, if_neg hn, State.tellEvent, State.setSensor_sensors, Tab.get_modify_self]
    exact State.reportEvent_trunk_congr (by rfl) ..
  all_goals simp [State.sensed, Tab.modify]

/-- R154: a COUNT sensor with `n` events as it was read. -/
def Sensor.countRead (x : Sensor) (n : Nat) (level : Level) (counter : BitVec 4) : Sensor :=
  { x with baseline := some counter, count := addSat x.count n, level := level }

theorem State.countReading_eq {s : State} {e : Fin 32} {k : Fin 2} {x : Sensor} {n : Nat} {counter : BitVec 4} {restarted : Bool}
    (hx : (s.sensors.get e).get k = x) (hn : x.newEvents restarted counter = n) (level : Level) :
    s.countReading e k level counter restarted = s.sensed e k n
      ((x.countRead n level counter).noticed n (s.clocks.get (s.elementHalf e))) (s.scored e k n) := by
  subst hx
  rw [State.countReading, hn]
  by_cases hnone : n = 0
  · subst hnone
    rw [if_pos rfl, State.sensed_quiet, Sensor.noticed_zero, State.scored_zero]
    rfl
  · rw [if_neg hnone, State.setSensor_setSensor, State.creditEvents_eq _ e k hnone, State.tellEvent_sensed s e k hnone,
      Sensor.capture_eq _ hnone]
    rfl

/-- R155: one event where the level differs from a known last level. -/
def Sensor.levelEvents (x : Sensor) (level : Level) : Nat := if x.level = .unknown ∨ x.level = level then 0 else 1

/-- R155: a LEVEL sensor with `n` events as it was read. -/
def Sensor.levelRead (x : Sensor) (n : Nat) (level : Level) : Sensor :=
  { x with level := level, count := if n = 0 then x.count else addSat x.count n }

theorem State.levelReading_eq {s : State} {e : Fin 32} {k : Fin 2} {x : Sensor} {n : Nat} {level : Level}
    (hx : (s.sensors.get e).get k = x) (hn : x.levelEvents level = n) : s.levelReading e k level =
      s.sensed e k n ((x.levelRead n level).noticed n (s.clocks.get (s.elementHalf e))) s.scores := by
  subst hx hn
  rw [State.levelReading]
  by_cases hsame : ((s.sensors.get e).get k).level = .unknown ∨ ((s.sensors.get e).get k).level = level
  · have hnone : ((s.sensors.get e).get k).levelEvents level = 0 := if_pos hsame
    rw [if_pos hsame, State.sensed_quiet, hnone, Sensor.noticed_zero]
    rfl
  · have hone : ((s.sensors.get e).get k).levelEvents level = 1 := if_neg hsame
    rw [if_neg hsame, hone, ← Sensor.capture_eq _ one_ne_zero]
    exact s.tellEvent_sensed e k one_ne_zero _ s.scores

@[simp] theorem State.sensed_keeps (s : State) (e : Fin 32) (k : Fin 2) (n : Nat) (y : Sensor) (scores : PerHalf Scores) :
    (s.sensed e k n y scores).tables = s.tables ∧ (s.sensed e k n y scores).clocks = s.clocks ∧
    (s.sensed e k n y scores).split = s.split ∧ (s.sensed e k n y scores).lines = s.lines ∧
    (s.sensed e k n y scores).slots = s.slots ∧ (s.sensed e k n y scores).stations = s.stations ∧
    (s.sensed e k n y scores).served = s.served ∧ (s.sensed e k n y scores).console = s.console ∧
    (s.sensed e k n y scores).radio = s.radio ∧ (s.sensed e k n y scores).links = s.links ∧
    (s.sensed e k n y scores).entries = s.entries ∧ (s.sensed e k n y scores).outputs = s.outputs ∧
    (s.sensed e k n y scores).bus = s.bus ∧ (s.sensed e k n y scores).elements = s.elements ∧
    (s.sensed e k n y scores).claims = s.claims ∧ (s.sensed e k n y scores).pending = s.pending := by
  simp [State.sensed]

/-! ## A good answer (R153) -/

theorem State.reading_off {s : State} {e : Fin 32} {k : Fin 2} (hoff : ((s.entries.get e).sensors.get k).mode = .off)
    (r : PollReading) : s.reading e k r = s := by
  rw [State.reading, hoff]

theorem SensorMode.count_or_level {mode : SensorMode} (hon : mode ≠ .off) : mode = .count ∨ mode = .level := by
  cases mode with
  | off => exact absurd rfl hon
  | count => exact .inl rfl
  | level => exact .inr rfl

/-- R154, R156, R158, R161: a good answer read by a COUNT sensor. -/
theorem State.reading_count {s : State} {e : Fin 32} {k : Fin 2} {x : Sensor} {n : Nat} {counters status : Byte}
    (hcount : ((s.entries.get e).sensors.get k).mode = .count) (hx : (s.sensors.get e).get k = x)
    (hn : x.newEvents (status.getLsbD 0) (counters.extractLsb' (4 * k.val) 4) = n) (levels : Byte) :
    s.reading e k (pollReading levels counters status) = s.sensed e k n
      ((x.countRead n (levelOfBit (levels.getLsbD k.val)) (counters.extractLsb' (4 * k.val) 4)).noticed n
        (s.clocks.get (s.elementHalf e))) (s.scored e k n) := by
  simp only [State.reading, hcount, pollReading, Tab.get_build, State.countReading_eq hx hn]

/-- R155, R156, R161: a good answer read by a LEVEL sensor. -/
theorem State.reading_level {s : State} {e : Fin 32} {k : Fin 2} {x : Sensor} {n : Nat} {levels : Byte}
    (hlevel : ((s.entries.get e).sensors.get k).mode = .level) (hx : (s.sensors.get e).get k = x)
    (hn : x.levelEvents (levelOfBit (levels.getLsbD k.val)) = n) (counters status : Byte) :
    s.reading e k (pollReading levels counters status) = s.sensed e k n
      ((x.levelRead n (levelOfBit (levels.getLsbD k.val))).noticed n (s.clocks.get (s.elementHalf e))) s.scores := by
  simp only [State.reading, hlevel, pollReading, Tab.get_build, State.levelReading_eq hx hn]

/-- R153: a sensor's reading leaves the other sensor as it was. -/
theorem State.reading_other {j k : Fin 2} (hjk : j ≠ k) (s : State) (e : Fin 32) (r : PollReading) :
    ((s.reading e j r).sensors.get e).get k = (s.sensors.get e).get k := by
  rw [State.reading]
  split
  case h_1 => rfl
  case h_2 => rw [State.countReading_eq rfl rfl, State.sensed, Tab.get_set_self, Tab.get_set_ne _ _ hjk]
  case h_3 => rw [State.levelReading_eq rfl rfl, State.sensed, Tab.get_set_self, Tab.get_set_ne _ _ hjk]

/-- R153: with the other sensor OFF, an answer is the reading of one sensor. -/
theorem State.readings_alone {s : State} {e : Fin 32} {k : Fin 2}
    (hoff : ∀ j, j ≠ k → ((s.entries.get e).sensors.get j).mode = .off) (r : PollReading) : s.readings e r = s.reading e k r := by
  rw [State.readings]
  match k with
  | 0 => exact State.reading_off (by simpa using hoff 1 (by decide)) r
  | 1 => rw [State.reading_off (hoff 0 (by decide))]

/-- R129, R132, R161: the answer of an ONLINE element tells of the events read and of nothing else, when no change of mode waits. -/
theorem State.freeBus_sensed_trunk {s : State} {e : Fin 32} (honline : (s.elements.get e).online = .online)
    (hmode : s.bus.requested = s.bus.actual) (k : Fin 2) (n : Nat) (y : Sensor) (scores : PerHalf Scores) :
    ((s.metOnline e).sensed e k n y scores).freeBus.trunk =
      if n = 0 then s.trunk else (s.reportEvent e k n y.level y.captured y.captureTime).trunk := by
  have hmet : (s.metOnline e).trunk = s.trunk := if_pos honline
  refine (State.freeBus_trunk (by simpa [State.metOnline] using hmode)).trans ?_
  exact if_congr Iff.rfl hmet (State.reportEvent_trunk_congr hmet ..)

/-- Settles O55: the reading of a COUNT sensor beside any other; and the reading, the points and the record of one sensor
alone. -/
theorem countSensorCountsModulo16 : Obligations.CountSensorCountsModulo16 := by
  refine ⟨fun s e levels counters status check hpoll hsum hcount => ?beside,
    fun s e k levels counters status check hpoll hsum hoff hon honline hmode => ?alone⟩
  case beside =>
    intro n x c captures
    have hn : x.newEvents (status.getLsbD 0) (counters.extractLsb' 0 4) = n := by
      have hcounter : (counters.extractLsb' 0 4).toNat = counters.toNat % 16 := by simp
      have hevents := x.newEvents_eq (status.getLsbD 0) (counters.extractLsb' 0 4)
      rw [hcounter] at hevents
      exact hevents
    have hread := State.reading_count (s := s.metOnline e) (x := x) hcount rfl hn levels
    refine ⟨_, congrArg Host.Outcome.next (pollEnd_good hpoll hsum), ?sensor, fun howner hoff => ?points⟩
    case sensor =>
      simp only [State.freeBus_keeps, State.readings, State.reading_other one_ne_zero, hread, State.sensed, Tab.get_set_self]
      rfl
    case points =>
      have hside : (s.metOnline e).creditSide e = some .red := by
        rw [State.creditSide, show ((s.metOnline e).entries.get e).owner = .red from howner]
      have halone : (s.metOnline e).readings e (pollReading levels counters status) = _ :=
        (State.readings_alone (k := 0) (by simpa [State.metOnline, Fin.forall_fin_two] using hoff) _).trans hread
      simp only [State.freeBus_keeps, halone, State.sensed, State.scored, hside]
      rfl
  case alone =>
    intro x entry counting c level counter n captures y side queue
    have hread : (s.metOnline e).readings e (pollReading levels counters status) =
        (s.metOnline e).sensed e k n y (if counting then (s.metOnline e).scored e k n else s.scores) := by
      rw [State.readings_alone (s := s.metOnline e) hoff]
      rcases SensorMode.count_or_level hon with hcounting | hlevel
      case inl =>
        change counting at hcounting
        have hn : x.newEvents (status.getLsbD 0) counter = n := (x.newEvents_eq _ counter).trans (if_pos hcounting).symm
        have hy : (x.countRead n level counter).noticed n c = y := by
          simp [y, hcounting, Sensor.noticed, Sensor.countRead, addSat, Sensor.captures, captures]
        rw [if_pos hcounting, ← hy]
        exact State.reading_count (s := s.metOnline e) (x := x) hcounting rfl hn levels
      case inr =>
        have hcounting : ¬ counting := fun hcount => absurd (hlevel.symm.trans hcount) (by decide)
        have hn : x.levelEvents level = n := (if_neg hcounting).symm
        have hy : (x.levelRead n level).noticed n c = y := by
          simp [y, hcounting, Sensor.noticed, Sensor.levelRead, addSat, Sensor.captures, captures]
        rw [if_neg hcounting, ← hy]
        exact State.reading_level (s := s.metOnline e) (x := x) hlevel rfl hn counters status
    have htrunk := State.freeBus_sensed_trunk honline hmode k n y (if counting then (s.metOnline e).scored e k n else s.scores)
    refine ⟨_, congrArg Host.Outcome.next ((pollEnd_good hpoll hsum).trans (congrArg State.freeBus hread)), ?sensors, ?scores,
      fun hn => htrunk.trans (if_pos hn), fun hn hnone => (htrunk.trans (if_neg hn)).trans ?queued,
      fun before seq delta was had time after hn hwaiting hbefore => (htrunk.trans (if_neg hn)).trans ?taken, ?frame⟩
    case sensors => simp [State.sensed, State.metOnline]
    case scores =>
      simp only [State.freeBus_keeps, State.sensed]
      exact (ite_and ..).symm
    case queued => rw [State.reportEvent_queued (by rwa [Trunk.unbegun_eq])]
    case taken =>
      rw [State.reportEvent_taken ((Trunk.unbegun_eq _).trans hwaiting) hbefore]
      rfl
    case frame => apply State.eq_of_blocks <;> simp [State.metOnline]

end Sys2Proof.Machine
end

section
/-! PROOFS. What a console line, a claim and the trunk port have room for, and what keeps each within it (R80, R83, R92 to R94,
R137, R140 to R147, R161, R164, R173, R174). -/

namespace Sys2Proof.Machine

/-! ## Console lines (R80, R83, R90, R92 to R94) -/

/-- R80: what a console line has room for. -/
def ConsoleLine.Bounded (l : ConsoleLine) : Prop := l.fifo.length ≤ 16 ∧ l.queue.length ≤ 4

/-- R92: a frame that finds room joins the queue. -/
theorem ConsoleLine.Bounded.push {l : ConsoleLine} (hl : l.Bounded) (hroom : l.queue.length < 4) (f : ConsoleOut) :
    (l.push f).Bounded :=
  ⟨hl.1, by rw [ConsoleLine.push, List.length_append]; exact hroom⟩

/-- R94: the frame evicted from a queue makes room for one. -/
theorem evictTelemetry_length : ∀ {queue rest : List ConsoleOut}, evictTelemetry queue = some rest →
    rest.length + 1 = queue.length
  | [], _, h => by cases h
  | f :: queue, rest, h => by
    cases f with
    | telemetry selector battery status payload => cases h; rfl
    | elementReply element answer =>
      obtain ⟨kept, hkept, rfl⟩ := Option.map_eq_some_iff.mp h
      exact congrArg Nat.succ (evictTelemetry_length hkept)
    | status present stop brk live selectors =>
      obtain ⟨kept, hkept, rfl⟩ := Option.map_eq_some_iff.mp h
      exact congrArg Nat.succ (evictTelemetry_length hkept)

/-- R93: a frame replaced in its place leaves the queue as long as it was. -/
theorem replaceTelemetry_length {k : Fin 2} {new : ConsoleOut} : ∀ {queue rest : List ConsoleOut},
    replaceTelemetry k new queue = some rest → rest.length = queue.length
  | [], _, h => by cases h
  | f :: queue, rest, h => by
    cases f with
    | telemetry selector battery status payload =>
      rw [replaceTelemetry] at h
      split at h
      · cases h; rfl
      · obtain ⟨kept, hkept, rfl⟩ := Option.map_eq_some_iff.mp h
        exact congrArg Nat.succ (replaceTelemetry_length hkept)
    | elementReply element answer =>
      obtain ⟨kept, hkept, rfl⟩ := Option.map_eq_some_iff.mp h
      exact congrArg Nat.succ (replaceTelemetry_length hkept)
    | status present stop brk live selectors =>
      obtain ⟨kept, hkept, rfl⟩ := Option.map_eq_some_iff.mp h
      exact congrArg Nat.succ (replaceTelemetry_length hkept)

/-- R92 to R94: a queue with its first frame and `n - 1` others in place of those behind it. -/
theorem length_take_one_append {α : Type} (queue rest : List α) {n : Nat} (hn : rest.length + n = queue.tail.length) :
    (queue.take 1 ++ rest).length + n = queue.length := by
  cases queue with
  | nil => simpa using hn
  | cons f queue =>
    simp only [List.tail_cons] at hn
    simp only [List.take_succ_cons, List.take_zero, List.length_append, List.length_cons, List.length_nil]
    omega

theorem ConsoleLine.Bounded.pushReply {l : ConsoleLine} (hl : l.Bounded) (f : ConsoleOut) : (l.pushReply f).Bounded := by
  rw [ConsoleLine.pushReply]
  split
  case isTrue hroom => exact hl.push hroom f
  case isFalse =>
    split
    case h_1 rest hrest =>
      refine ⟨hl.1, ?_⟩
      have hlength := length_take_one_append l.queue rest (evictTelemetry_length hrest)
      rw [List.length_append]
      exact hlength.le.trans hl.2
    case h_2 => exact hl

theorem ConsoleLine.Bounded.pushTelemetry {l : ConsoleLine} (hl : l.Bounded) (k : Fin 2) (f : ConsoleOut) :
    (l.pushTelemetry k f).Bounded := by
  rw [ConsoleLine.pushTelemetry]
  split
  case h_1 rest hrest =>
    exact ⟨hl.1, (length_take_one_append (n := 0) l.queue rest (replaceTelemetry_length hrest)).le.trans hl.2⟩
  case h_2 =>
    split
    case isTrue hroom => exact hl.push hroom f
    case isFalse => exact hl

/-- R92: the end of a frame leaves room. -/
theorem ConsoleLine.Bounded.sent {l : ConsoleLine} (hl : l.Bounded) : l.sent.Bounded :=
  ⟨hl.1, by rw [ConsoleLine.sent, List.length_tail]; exact (Nat.sub_le _ _).trans hl.2⟩

/-- R90: what the assembler leaves in the FIFO was there. -/
theorem drainEntries_fifo : ∀ (entries : List FifoEntry) (l : ConsoleLine),
    (drainEntries entries l).fifo.length ≤ entries.length
  | [], _ => Nat.le_refl 0
  | e :: rest, l => by
    rw [drainEntries]
    split
    · exact Nat.le_refl _
    · exact (drainEntries_fifo rest _).trans (Nat.le_succ _)

theorem ConsoleLine.Bounded.drain {l : ConsoleLine} (hl : l.Bounded) : l.drain.Bounded := by
  obtain ⟨hqueue, -⟩ := drainEntries_sends l.fifo l
  exact ⟨(drainEntries_fifo l.fifo l).trans hl.1, by rw [ConsoleLine.drain, hqueue]; exact hl.2⟩

/-- R83: an entry joins a FIFO that has room for it. -/
theorem ConsoleLine.Bounded.enter {l : ConsoleLine} (hl : l.Bounded) (byte : Byte) (framing : Bool) :
    (l.enter byte framing).Bounded := by
  rw [ConsoleLine.enter]
  split
  case isTrue hroom => exact ConsoleLine.Bounded.drain ⟨by rw [List.length_append]; exact hroom, hl.2⟩
  case isFalse => exact hl

theorem ConsoleLine.Bounded.character {l : ConsoleLine} (hl : l.Bounded) (byte : Byte) (framing : Bool) :
    (l.character byte framing).Bounded := by
  cases hbreak : l.breakPresent with
  | true => rw [ConsoleLine.character_inBreak hbreak]; exact hl
  | false =>
    have hcounted : ({ l with gapRaised := false, counters := l.framed framing } : ConsoleLine).Bounded := hl
    rw [ConsoleLine.character_eq hbreak]
    exact hcounted.enter byte framing

/-- R84, R85: boundaries touch neither FIFO nor queue. -/
theorem ConsoleLine.Bounded.gap {l : ConsoleLine} (hl : l.Bounded) : l.gap.Bounded := by
  simp only [ConsoleLine.gap]
  repeat' split
  all_goals exact hl

theorem ConsoleLine.Bounded.startBreak {l : ConsoleLine} (hl : l.Bounded) : l.startBreak.Bounded := by
  simp only [ConsoleLine.startBreak, ConsoleLine.breakBoundary]
  repeat' split
  all_goals exact hl

/-! ## Claims (R137, R140 to R147) -/

/-- R137: the wait list of a claim is well formed and within its room. -/
def Claim.Bounded (c : Claim) : Prop := c.waiters.length ≤ 4 ∧ c.Formed

theorem Claim.bounded_empty : Claim.empty.Bounded := by simp [Claim.Bounded, Claim.Formed, Claim.empty]

/-- A claim that nobody waits for. -/
theorem Claim.bounded_of_alone {c : Claim} (h : c.waiters = []) : c.Bounded := by simp [Claim.Bounded, Claim.Formed, h]

/-- R137: the hold timer and the accumulator are no matter of the wait list. -/
theorem Claim.Bounded.congr {c d : Claim} (hc : c.Bounded) (hholder : d.holder = c.holder) (hwaiters : d.waiters = c.waiters) :
    d.Bounded := by
  rw [Claim.Bounded, Claim.Formed, hholder, hwaiters]
  exact hc

/-- R143: the head waiter becomes the holder and no longer waits. -/
theorem Claim.Bounded.promoted {c : Claim} (hc : c.Bounded) (limit : Nat) : (c.promoted limit).Bounded := by
  obtain ⟨hroom, -, -, hnodup⟩ := hc
  cases hw : c.waiters with
  | nil => rw [Claim.promoted_nil hw]; exact Claim.bounded_empty
  | cons w rest =>
    rw [Claim.promoted_cons hw]
    rw [hw] at hroom hnodup
    obtain ⟨hout, hrest⟩ := List.nodup_cons.mp hnodup
    exact ⟨(Nat.le_succ _).trans hroom, nofun, fun n hn => Option.some.inj hn ▸ hout, hrest⟩

/-- R141, R147: a station leaves the wait list. -/
theorem Claim.Bounded.filter {c : Claim} (hc : c.Bounded) (n : Fin 12) :
    ({ c with waiters := c.waiters.filter (· ≠ n) } : Claim).Bounded := by
  obtain ⟨hroom, hfree, hout, hnodup⟩ := hc
  exact ⟨(List.length_filter_le _ _).trans hroom, fun h => by simp [hfree h], fun m hm k => hout m hm (List.mem_of_mem_filter k),
    hnodup.filter _⟩

/-- R140: a station that neither holds nor waits joins a wait list that has room for it. -/
theorem Claim.Bounded.join {c : Claim} (hc : c.Bounded) {n m : Fin 12} (hholder : c.holder = some m) (hm : m ≠ n)
    (hn : n ∉ c.waiters) (hroom : c.waiters.length < 4) : ({ c with waiters := c.waiters ++ [n] } : Claim).Bounded := by
  obtain ⟨-, -, hout, hnodup⟩ := hc
  refine ⟨by rw [List.length_append]; exact hroom, fun h => ?_, fun k hk => ?_, hnodup.append (List.nodup_singleton n) ?_⟩
  · rw [hholder] at h
    cases h
  · have hkm : m = k := Option.some.inj (hholder.symm.trans hk)
    rw [List.mem_append, List.mem_singleton, not_or]
    exact ⟨hout k hk, hkm ▸ hm⟩
  · exact List.disjoint_singleton.mpr hn

/-! ## The trunk port (R161, R164, R173, R174) -/

/-- R164: the trunk port goes on within its room: no further frame or REPLY waits, and the report queue has not outgrown its
own. -/
structure Trunk.GoesOn (t u : Trunk) : Prop where
  buffer : u.buffer.length ≤ t.buffer.length
  reports : t.reports.length ≤ 32 → u.reports.length ≤ 32
  replies : u.replies.Sublist t.replies

/-- What touches neither buffer nor queue nor waiting REPLYs. -/
theorem Trunk.GoesOn.of_eq {t u : Trunk} (hbuffer : u.buffer = t.buffer) (hreports : u.reports = t.reports)
    (hreplies : u.replies = t.replies) : t.GoesOn u :=
  ⟨by rw [hbuffer], by rw [hreports]; exact id, by rw [hreplies]⟩

theorem Trunk.GoesOn.refl (t : Trunk) : t.GoesOn t := .of_eq rfl rfl rfl

theorem Trunk.GoesOn.trans {t u v : Trunk} (h : t.GoesOn u) (k : u.GoesOn v) : t.GoesOn v :=
  ⟨k.buffer.trans h.buffer, k.reports ∘ h.reports, k.replies.trans h.replies⟩

/-- R173: what begins to be sent had waited. -/
theorem Trunk.choose_goesOn (t : Trunk) : t.GoesOn t.choose := by
  rw [Trunk.choose]
  split
  · split
    case h_1 hreplies => exact ⟨Nat.le_refl _, id, by rw [hreplies]; exact List.sublist_cons_self _ _⟩
    case h_2 => exact .of_eq rfl rfl rfl
    case h_3 => exact .refl t
  · exact .refl t

/-- R174: a record joins the queue below 32. -/
theorem Trunk.record_goesOn (t : Trunk) (r : Report) : t.GoesOn (t.record r) := by
  rw [Trunk.record]
  split
  case isTrue hroom => exact ⟨Nat.le_refl _, fun _ => by rw [List.length_append]; exact hroom, .refl _⟩
  case isFalse => exact .of_eq rfl rfl rfl

/-- R173: the end of a frame. -/
theorem Trunk.sent_goesOn (t : Trunk) : t.GoesOn t.sent := by
  rw [Trunk.sent]
  refine .trans ?_ (Trunk.choose_goesOn _)
  refine ⟨Nat.le_refl _, fun h => ?_, .refl _⟩
  dsimp only
  split
  · rw [List.length_tail]
    exact (Nat.sub_le _ _).trans h
  · exact h

theorem coalesce_length (e : Fin 32) (k : Fin 2) (n : Nat) (level : Level) (captured : Bool) (time : Nat) :
    ∀ records : List Record, (coalesce e k n level captured time records).length = records.length
  | [] => rfl
  | r :: rest => by
    rw [coalesce]
    repeat' split
    all_goals simp only [List.length_cons, coalesce_length e k n level captured time rest]

/-- R161: a record that takes up further events keeps its place in the queue. -/
theorem Trunk.coalesced_length (t : Trunk) (e : Fin 32) (k : Fin 2) (n : Nat) (level : Level) (captured : Bool) (time : Nat) :
    (t.begun ++ coalesce e k n level captured time t.unbegun).length = t.reports.length := by
  rw [List.length_append, coalesce_length, ← List.length_append, Trunk.begun, Trunk.unbegun]
  split
  · rw [List.take_append_drop]
  · rfl

end Sys2Proof.Machine
end

section
/-! PROOFS. What the operations of the blocks keep of the bounds of every buffer, queue and wait list (R80, R93, R94, R110, R137,
R164, R174). -/

namespace Sys2Proof.Machine

/-! ## Changes of one block -/

theorem State.Bounded.console {s : State} (hs : s.Bounded) (n : Fin 12) : (s.console.get n).Bounded := hs.2.2.2.1 n

theorem State.Bounded.claims {s : State} (hs : s.Bounded) (e : Fin 32) : (s.claims.get e).Bounded := hs.2.2.2.2.1 e

theorem State.Bounded.answers {s : State} (hs : s.Bounded) : s.radio.answers.length ≤ 4 := hs.2.2.1

/-- A state whose trunk port goes on within its room, with no further PASS in flight, and the other queues within theirs. -/
theorem State.Bounded.of_blocks {s t : State} (hs : s.Bounded) (htrunk : s.trunk.GoesOn t.trunk)
    (hbus : ∀ tag address expected, t.bus.inFlight = .pass tag address expected → s.bus.inFlight = .pass tag address expected)
    (hanswers : t.radio.answers.length ≤ 4) (hconsole : ∀ n, (t.console.get n).Bounded)
    (hclaims : ∀ e, (t.claims.get e).Bounded) : t.Bounded := by
  obtain ⟨hbuffer, hreports, -, -, -, hformed, hdeferred, hpass⟩ := hs
  exact ⟨htrunk.buffer.trans hbuffer, htrunk.reports hreports, hanswers, hconsole, hclaims,
    (htrunk.replies.filter _).length_le.trans hformed, (htrunk.replies.filter _).length_le.trans hdeferred,
    fun tag address expected h r hr => hpass tag address expected (hbus tag address expected h) r (htrunk.replies.subset hr)⟩

/-- What touches no buffer, no queue, no wait list and no transaction. -/
theorem State.Bounded.of_frame {s t : State} (hs : s.Bounded)
    (h : t.trunk = s.trunk ∧ t.bus.inFlight = s.bus.inFlight ∧ t.radio.answers = s.radio.answers ∧ t.console = s.console ∧
      t.claims = s.claims) : t.Bounded := by
  obtain ⟨htrunk, hbus, hanswers, hconsole, hclaims⟩ := h
  exact hs.of_blocks (by rw [htrunk]; exact .refl _) (fun _ _ _ => by rw [hbus]; exact id) (by rw [hanswers]; exact hs.answers)
    (by rw [hconsole]; exact hs.console) (by rw [hclaims]; exact hs.claims)

/-- What changes claims alone. -/
theorem State.Bounded.of_claims {s t : State} (hs : s.Bounded)
    (h : t.trunk = s.trunk ∧ t.bus.inFlight = s.bus.inFlight ∧ t.radio.answers = s.radio.answers ∧ t.console = s.console)
    (hclaims : ∀ e, (t.claims.get e).Bounded) : t.Bounded := by
  obtain ⟨htrunk, hbus, hanswers, hconsole⟩ := h
  exact hs.of_blocks (by rw [htrunk]; exact .refl _) (fun _ _ _ => by rw [hbus]; exact id) (by rw [hanswers]; exact hs.answers)
    (by rw [hconsole]; exact hs.console) hclaims

/-- What changes the claim of one element. -/
theorem State.Bounded.of_claim {s t : State} {e : Fin 32} {c : Claim} (hs : s.Bounded)
    (h : t.trunk = s.trunk ∧ t.bus.inFlight = s.bus.inFlight ∧ t.radio.answers = s.radio.answers ∧ t.console = s.console)
    (hclaims : t.claims = s.claims.set e c) (hc : c.Bounded) : t.Bounded := by
  refine hs.of_claims h fun x => ?_
  rw [hclaims, Tab.get_set]
  split
  · exact hc
  · exact hs.claims x

theorem State.Bounded.setClaim {s : State} (hs : s.Bounded) (e : Fin 32) {f : Claim → Claim}
    (hf : (s.claims.get e).Bounded → (f (s.claims.get e)).Bounded) : (s.setClaim e f).Bounded :=
  hs.of_claim ⟨rfl, rfl, rfl, rfl⟩ rfl (hf (hs.claims e))

theorem State.Bounded.setConsole {s : State} (hs : s.Bounded) (n : Fin 12) {f : ConsoleLine → ConsoleLine}
    (hf : (s.console.get n).Bounded → (f (s.console.get n)).Bounded) : (s.setConsole n f).Bounded := by
  refine hs.of_blocks (.refl _) (fun _ _ _ => id) hs.answers (fun m => ?_) hs.claims
  rw [State.setConsole_console, Tab.get_modify]
  split
  case isTrue hm => exact hm ▸ hf (hs.console n)
  case isFalse => exact hs.console m

theorem State.Bounded.setRadio {s : State} (hs : s.Bounded) {f : Radio → Radio}
    (hf : s.radio.answers.length ≤ 4 → (f s.radio).answers.length ≤ 4) : (s.setRadio f).Bounded :=
  hs.of_blocks (.refl _) (fun _ _ _ => id) (hf hs.answers) hs.console hs.claims

theorem State.Bounded.setTrunk {s : State} (hs : s.Bounded) {f : Trunk → Trunk} (hf : s.trunk.GoesOn (f s.trunk)) :
    (s.setTrunk f).Bounded :=
  hs.of_blocks hf (fun _ _ _ => id) hs.answers hs.console hs.claims

/-- What puts no PASS in flight. -/
theorem State.Bounded.setBus {s : State} (hs : s.Bounded) {f : Bus → Bus}
    (hf : ∀ tag address expected, (f s.bus).inFlight = .pass tag address expected →
      s.bus.inFlight = .pass tag address expected) : (s.setBus f).Bounded :=
  hs.of_blocks (.refl _) hf hs.answers hs.console hs.claims

/-! What follows touches no buffer, no queue, no wait list and no transaction. -/

theorem State.Bounded.setTables {s : State} (hs : s.Bounded) {h : Half} {f : MatchTables → MatchTables} :
    (s.setTables h f).Bounded := hs.of_frame (by simp)

theorem State.Bounded.setClock {s : State} (hs : s.Bounded) {h : Half} {f : Clock → Clock} : (s.setClock h f).Bounded :=
  hs.of_frame (by simp)

theorem State.Bounded.setLine {s : State} (hs : s.Bounded) {n : Fin 4} {f : ArenaLine → ArenaLine} : (s.setLine n f).Bounded :=
  hs.of_frame (by simp)

theorem State.Bounded.setElement {s : State} (hs : s.Bounded) {e : Fin 32} {f : ElementLink → ElementLink} :
    (s.setElement e f).Bounded := hs.of_frame (by simp)

theorem State.Bounded.setStation {s : State} (hs : s.Bounded) {n : Fin 12} {f : StationAdmission → StationAdmission} :
    (s.setStation n f).Bounded := hs.of_frame (by simp)

theorem State.Bounded.setLink {s : State} (hs : s.Bounded) {i : Fin 24} {f : SlotLink → SlotLink} : (s.setLink i f).Bounded :=
  hs.of_frame (by simp)

theorem State.Bounded.setSlot {s : State} (hs : s.Bounded) {i : Fin 24} {f : SlotAdmission → SlotAdmission} :
    (s.setSlot i f).Bounded := hs.of_frame (by simp)

theorem State.Bounded.countRadio {s : State} (hs : s.Bounded) {f : RadioCounters → RadioCounters} : (s.countRadio f).Bounded :=
  hs.of_frame (by simp)

theorem State.Bounded.zeroHalf {s : State} (hs : s.Bounded) {h : Half} : (s.zeroHalf h).Bounded := hs.of_frame (by simp)

theorem State.Bounded.zeroStation {s : State} (hs : s.Bounded) {n : Fin 12} : (s.zeroStation n).Bounded := hs.of_frame (by simp)

theorem State.Bounded.zeroMatch {s : State} (hs : s.Bounded) {h : Half} : (s.zeroMatch h).Bounded := hs.of_frame (by simp)

theorem State.Bounded.autoOverrides {s : State} (hs : s.Bounded) {h : Half} : (s.autoOverrides h).Bounded :=
  hs.of_frame (by simp)

theorem State.Bounded.releaseStations {s : State} (hs : s.Bounded) {h : Half} : (s.releaseStations h).Bounded :=
  hs.of_frame (by simp)

theorem State.Bounded.clearScoring {s : State} (hs : s.Bounded) {h : Half} : (s.clearScoring h).Bounded := hs.of_frame (by simp)

theorem State.Bounded.arm {s : State} (hs : s.Bounded) {h : Half} : (s.arm h).Bounded := hs.of_frame (by simp)

/-! ## Choices, passes, reports and answers -/

theorem State.Bounded.foldl {α : Type} {f : State → α → State} (hf : ∀ t x, t.Bounded → (f t x).Bounded) (l : List α) {s : State}
    (hs : s.Bounded) : (l.foldl f s).Bounded := foldl_inv State.Bounded f hf l s hs

/-- A choice between two states. -/
theorem State.Bounded.ite {p : Prop} [Decidable p] {s t : State} (hs : p → s.Bounded) (ht : ¬ p → t.Bounded) :
    (if p then s else t).Bounded := by
  split
  case isTrue h => exact hs h
  case isFalse h => exact ht h

theorem State.Bounded.report {s : State} (hs : s.Bounded) (r : Report) : (s.report r).Bounded :=
  hs.setTrunk ((Trunk.record_goesOn _ r).trans (Trunk.choose_goesOn _))

theorem State.Bounded.reportClock {s : State} (hs : s.Bounded) (h : Half) : (s.reportClock h).Bounded := hs.report _

theorem State.Bounded.tell {s : State} (hs : s.Bounded) (n : Fin 12) (e : Byte) (a : ClaimAnswer) : (s.tell n e a).Bounded :=
  hs.setConsole n fun hl => hl.pushReply _

/-! ## The claim unit (R137 to R151) -/

theorem State.Bounded.promote {s : State} (hs : s.Bounded) (e : Fin 32) : (s.promote e).Bounded := by
  rw [State.promote]
  split
  case h_1 => exact hs.setClaim e fun _ => Claim.bounded_empty
  case h_2 w rest hw =>
    have hgranted := (hs.claims e).promoted (s.entries.get e).holdLimit
    rw [Claim.promoted_cons hw] at hgranted
    exact State.Bounded.tell (hs.setClaim e fun _ => hgranted) _ _ _

theorem State.Bounded.expireHold {s : State} (hs : s.Bounded) (e : Fin 32) : (s.expireHold e).Bounded := by
  rw [State.expireHold]
  split
  · exact (hs.tell _ _ _).promote e
  · exact hs

theorem State.Bounded.flush {s : State} (hs : s.Bounded) (reason : ClaimReason) (e : Fin 32) : (s.flush reason e).Bounded := by
  have hfreed : (s.setClaim e fun _ => .empty).Bounded := hs.setClaim e fun _ => Claim.bounded_empty
  simp only [State.flush]
  split
  · exact hs
  · refine .foldl (fun t w ht => ht.tell _ _ _) _ ?_
    split
    · exact hfreed.tell _ _ _
    · exact hfreed

theorem State.Bounded.flushStopped {s : State} (hs : s.Bounded) (h : Half) : (s.flushStopped h).Bounded :=
  .foldl (fun _ e ht => .ite (fun _ => ht.flush .stopped e) fun _ => ht) _ hs

theorem State.Bounded.flushPhase {s : State} (hs : s.Bounded) (h : Half) (kind : PhaseKind) (p : Profile) :
    (s.flushPhase h kind p).Bounded :=
  .foldl (fun _ e ht => .ite (fun _ => ht.flush .phase e) fun _ => ht) _ hs

theorem State.Bounded.flushSilent {s : State} (hs : s.Bounded) (h : Half) : (s.flushSilent h).Bounded := by
  refine hs.of_claims (by simp) fun e => ?_
  rw [State.flushSilent_claims]
  split
  · exact Claim.bounded_empty
  · exact hs.claims e

theorem State.Bounded.dropStation {s : State} (hs : s.Bounded) (n : Fin 12) (e : Fin 32) : (s.dropStation n e).Bounded := by
  rw [State.dropStation]
  split
  · exact (hs.tell _ _ _).promote e
  · split
    · exact State.Bounded.tell (hs.setClaim e fun hc => hc.filter n) _ _ _
    · exact hs

theorem State.Bounded.dropClaims {s : State} (hs : s.Bounded) (n : Fin 12) : (s.dropClaims n).Bounded :=
  .foldl (fun _ e ht => ht.dropStation n e) _ hs

/-- R145: an accrual touches no wait list. -/
theorem State.Bounded.accrue {s : State} (hs : s.Bounded) (h : Half) (e : Fin 32) : (s.accrue h e).Bounded := by
  obtain ⟨n, hclaims⟩ := s.accrue_claims h e
  exact hs.of_claim (by simp) hclaims ((hs.claims e).congr rfl rfl)

theorem State.Bounded.countHold {s : State} (hs : s.Bounded) (e : Fin 32) : (s.countHold e).Bounded := by
  rw [State.countHold]
  split
  · exact hs
  · split
    · exact hs.expireHold e
    · exact hs.setClaim e fun hc => hc.congr rfl rfl

theorem State.Bounded.claimTenths {s : State} (hs : s.Bounded) (h : Half) : (s.claimTenths h).Bounded :=
  .foldl (fun _ e ht => .ite (fun _ => (ht.accrue h e).countHold e) fun _ => ht) _ hs

/-- R140: a CLAIM holds a free element, or joins a wait list that has room. -/
theorem State.Bounded.doClaim {s : State} (hs : s.Bounded) (n : Fin 12) (e : Fin 32) : (s.doClaim n e).1.Bounded := by
  obtain ⟨-, hfree, -, -⟩ := hs.claims e
  simp only [State.doClaim]
  split
  case h_1 hholder => exact hs.setClaim e fun _ => Claim.bounded_of_alone (hfree hholder)
  case h_2 m hholder =>
    split
    · exact hs
    · split
      · exact hs
      · split
        · exact hs
        · rename_i hm hn hroom
          exact hs.setClaim e fun hc => hc.join hholder hm hn (Nat.not_le.mp hroom)

theorem State.Bounded.doRelease {s : State} (hs : s.Bounded) (n : Fin 12) (e : Fin 32) : (s.doRelease n e).1.Bounded := by
  simp only [State.doRelease]
  split
  · exact hs.promote e
  · split
    · exact hs.setClaim e fun hc => hc.filter n
    · exact hs

theorem State.Bounded.doActuate {s : State} (hs : s.Bounded) (n : Fin 12) (e : Fin 32) (k : Fin 2) (v : Byte) :
    (s.doActuate n e k v).1.Bounded := by
  rw [State.doActuate]
  split
  · exact hs
  · exact hs.of_frame (by simp)

theorem State.Bounded.request {s : State} (hs : s.Bounded) (n : Fin 12) (r : ElementRequest) : (s.request n r).1.Bounded := by
  rw [State.request]
  split
  · exact hs
  · split
    · exact hs
    all_goals split
    · exact hs
    · exact hs.doActuate n _ _ _
    · exact hs
    · exact hs.doClaim n _
    · exact hs
    · exact hs.doRelease n _

/-! ## The admission unit and the console lines (R53, R56 to R60) -/

theorem State.Bounded.latchStation {s : State} (hs : s.Bounded) (n : Fin 12) : (s.latchStation n).Bounded := by
  rw [State.latchStation]
  split
  · exact hs
  · exact (hs.setStation.report _).zeroStation.dropClaims n

theorem State.Bounded.takeFrame {s : State} (hs : s.Bounded) (n : Fin 12) : (s.takeFrame n).Bounded := by
  have hfreed : (s.setConsole n fun l => (l.assemble .hunting).drain).Bounded :=
    hs.setConsole n fun hl => ConsoleLine.Bounded.drain hl
  exact hfreed.of_frame ⟨rfl, rfl, rfl, rfl, rfl⟩

theorem State.Bounded.control {s : State} (hs : s.Bounded) (n : Fin 12) (f : ControlFrame) : (s.control n f).Bounded := by
  have hdriven : (s.driven n f).Bounded := hs.of_frame (by simp)
  by_cases hn : (s.stationEntry n).team = 0
  · rw [State.control_absent hn]
    exact hs.of_frame (by simp)
  · cases hf : f.request with
    | none => rw [State.control_quiet hn hf]; exact hdriven
    | some r => rw [State.control_requests hn hf]; exact (hdriven.request n r).tell _ _ _

/-! ## The match tables, the match clocks and the arena lines (R15 to R45) -/

/-- R19, R34, R114: a dropped slot's join answer leaves the queue. -/
theorem State.Bounded.dropLinks {s : State} (hs : s.Bounded) (h : Half) : (s.dropLinks h).Bounded := by
  rw [State.dropLinks]
  exact State.Bounded.setRadio (hs.of_frame (by simp)) fun hr => (List.length_filter_le _ _).trans hr

theorem State.Bounded.turnover {s : State} (hs : s.Bounded) (h : Half) : (s.turnover h).Bounded := by
  have hinstalled : (s.installed h).Bounded :=
    ((hs.setTables.dropLinks h).autoOverrides.zeroMatch.releaseStations.flushSilent h).clearScoring.arm
  rw [State.turnover_eq]
  split
  · exact hinstalled.report _
  · exact (hinstalled.report _).reportClock h

theorem State.Bounded.autoTurnover {s : State} (hs : s.Bounded) (h : Half) : (s.autoTurnover h).Bounded :=
  .ite (fun _ => hs.turnover h) fun _ => hs

theorem State.Bounded.endMatch {s : State} (hs : s.Bounded) (h : Half) : (s.endMatch h).Bounded :=
  ((hs.setClock.reportClock h).zeroHalf.flushSilent h).autoTurnover h

theorem State.Bounded.enterPhase {s : State} (hs : s.Bounded) (h : Half) (j : Fin 8) : (s.enterPhase h j).Bounded :=
  (hs.setClock.report _).zeroHalf.flushPhase h _ _

theorem State.Bounded.endPhase {s : State} (hs : s.Bounded) (h : Half) : (s.endPhase h).Bounded := by
  obtain ⟨j, -, hj⟩ | he := s.endPhase_eq h
  · exact hj ▸ hs.enterPhase h j
  · exact he ▸ hs.endMatch h

theorem State.Bounded.startMatch {s : State} (hs : s.Bounded) (h : Half) : (s.startMatch h).Bounded := by
  have hzeroed : (s.zeroed h).Bounded := hs.of_frame (by simp [State.zeroed])
  obtain ⟨j, hj⟩ | he := s.startMatch_eq h
  · rw [State.startMatch_of_first hj]
    exact (hzeroed.enterPhase h j).setClock.reportClock h
  · exact he ▸ hzeroed.endMatch h

theorem State.Bounded.changeHolds {s : State} (hs : s.Bounded) (h : Half) (f : Clock → Clock) : (s.changeHolds h f).Bounded := by
  simp only [State.changeHolds]
  split
  · exact hs.setClock
  · exact hs.setClock.reportClock h

theorem State.Bounded.deriveHolds {s : State} (hs : s.Bounded) : s.deriveHolds.Bounded :=
  (hs.changeHolds .a _).changeHolds .b _

theorem State.Bounded.latchStop {s : State} (hs : s.Bounded) (h : Half) (source : StopSource) :
    (s.latchStop h source).Bounded := by
  rw [State.latchStop]
  dsimp only
  split
  · exact hs
  · split
    · exact ((hs.setClock.report _).changeHolds h _).flushStopped h
    · exact (hs.setClock.report _).flushStopped h

theorem State.Bounded.stopCleared {s : State} (hs : s.Bounded) (h : Half) : (s.stopCleared h).Bounded :=
  (hs.setClock.report _).changeHolds h _

theorem State.Bounded.clearMatch {s : State} (hs : s.Bounded) (h : Half) : (s.clearMatch h).Bounded := by
  rw [State.clearMatch]
  split
  · exact ((hs.setClock.setTables.dropLinks h).flushSilent h).clearScoring.zeroMatch.autoOverrides
  · exact (((hs.setClock.reportClock h).setTables.dropLinks h).flushSilent h).clearScoring.zeroMatch.autoOverrides

theorem State.Bounded.carryStop {s : State} (hs : s.Bounded) (h : Half) (value : Bool) : (s.carryStop h value).Bounded :=
  .ite (fun _ => hs) fun _ => hs.setClock.report _

theorem State.Bounded.latchFrom {s : State} (hs : s.Bounded) (h : Half) (n : Fin 4) : (s.latchFrom h n).Bounded := by
  rw [State.latchFrom]
  split
  · exact .ite (fun _ => hs.latchStop h _) fun _ => hs
  · exact hs

theorem State.Bounded.setSplit {s : State} (hs : s.Bounded) (value : Bool) : (s.setSplit value).Bounded := by
  have hemptied : (s.splitEmptied value).Bounded := hs.of_frame ⟨rfl, rfl, rfl, rfl, rfl⟩
  rw [State.setSplit_eq]
  refine State.Bounded.deriveHolds ?_
  unfold State.splitCarried
  split
  · exact .foldl (fun t n ht => ht.latchFrom .b n) _ (hemptied.carryStop _ _)
  · exact (hemptied.carryStop _ _).carryStop _ _
  · exact hemptied

theorem State.Bounded.startEdge {s : State} (hs : s.Bounded) (n : Fin 4) (h : Half) : (s.startEdge n h).Bounded :=
  .ite (fun _ => hs.startMatch h) fun _ => hs.setLine

/-! ## The scoring unit and the element bus (R119, R127 to R136, R153, R161) -/

theorem State.Bounded.reportEvent {s : State} (hs : s.Bounded) (e : Fin 32) (k : Fin 2) (n : Nat) (level : Level) (captured : Bool)
    (time : Nat) : (s.reportEvent e k n level captured time).Bounded := by
  refine .ite (fun _ => hs.setTrunk ⟨Nat.le_refl _, fun h => ?_, .refl _⟩) fun _ => hs.report _
  exact (Trunk.coalesced_length _ e k n level captured time).le.trans h

theorem State.Bounded.tellEvent {s : State} (hs : s.Bounded) (e : Fin 32) (k : Fin 2) (n : Nat) : (s.tellEvent e k n).Bounded :=
  hs.reportEvent _ _ _ _ _ _

theorem State.Bounded.countReading {s : State} (hs : s.Bounded) (e : Fin 32) (k : Fin 2) (level : Level) (c : BitVec 4)
    (restarted : Bool) : (s.countReading e k level c restarted).Bounded := by
  rw [State.countReading]
  split
  · exact hs.of_frame (by simp)
  · exact State.Bounded.tellEvent (hs.of_frame (by simp)) e k _

theorem State.Bounded.levelReading {s : State} (hs : s.Bounded) (e : Fin 32) (k : Fin 2) (level : Level) :
    (s.levelReading e k level).Bounded := by
  rw [State.levelReading]
  split
  · exact hs.of_frame (by simp)
  · exact State.Bounded.tellEvent (hs.of_frame (by simp)) e k 1

theorem State.Bounded.reading {s : State} (hs : s.Bounded) (e : Fin 32) (k : Fin 2) (r : PollReading) :
    (s.reading e k r).Bounded := by
  rw [State.reading]
  split
  · exact hs
  · exact hs.countReading e k _ _ _
  · exact hs.levelReading e k _

theorem State.Bounded.goodAnswer {s : State} (hs : s.Bounded) (e : Fin 32) (r : PollReading) : (s.goodAnswer e r).Bounded := by
  rw [State.goodAnswer]
  split
  · exact (hs.setElement.reading e 0 r).reading e 1 r
  · exact ((hs.setElement.report _).reading e 0 r).reading e 1 r

theorem State.Bounded.missedPoll {s : State} (hs : s.Bounded) (e : Fin 32) : (s.missedPoll e).Bounded := by
  rw [State.missedPoll]
  split
  · exact hs.setElement
  · split
    · exact hs.setElement.setElement
    · exact (hs.setElement.setElement.report _).flush .offline e

theorem State.Bounded.badAnswer {s : State} (hs : s.Bounded) : s.badAnswer.Bounded := hs.of_frame (by simp [State.badAnswer])

theorem State.Bounded.judgeAnswer {s : State} (hs : s.Bounded) (e : Fin 32) (answer : Option BusFrame) :
    (s.judgeAnswer e answer).Bounded := by
  cases answer with
  | none => exact hs.missedPoll e
  | some f =>
    rw [State.judgeAnswer]
    split
    · exact hs.goodAnswer e _
    · exact hs.badAnswer.missedPoll e

theorem State.Bounded.startSweep {s : State} (hs : s.Bounded) : s.startSweep.Bounded := hs.of_frame (by simp [State.startSweep])

theorem State.Bounded.endSweep {s : State} (hs : s.Bounded) : s.endSweep.Bounded :=
  .ite (fun _ => State.Bounded.startSweep (hs.of_frame (by simp))) fun _ => hs.of_frame (by simp)

theorem State.Bounded.checkSweep {s : State} (hs : s.Bounded) : s.checkSweep.Bounded :=
  .ite (fun _ => hs.endSweep) fun _ => hs

theorem State.Bounded.applyMode {s : State} (hs : s.Bounded) : s.applyMode.Bounded := by
  rw [State.applyMode]
  dsimp only
  split
  · exact hs
  · split
    · exact State.Bounded.report (hs.of_frame (by simp)) _
    · exact State.Bounded.report (State.Bounded.startSweep (hs.of_frame (by simp))) _

/-- R128, R132: what is left of the end of a transaction once the bus is free. -/
theorem State.Bounded.freeBus {s : State} (hs : s.busFreed.Bounded) : s.freeBus.Bounded := hs.applyMode.checkSweep

theorem State.Bounded.busFreed {s : State} (hs : s.Bounded) : s.busFreed.Bounded :=
  hs.setBus (f := fun b => { b with inFlight := .none }) fun _ _ _ h => nomatch h

theorem State.Bounded.beginPoll {s : State} (hs : s.Bounded) (e : Fin 32) : (s.beginPoll e).Bounded := by
  rw [State.beginPoll]
  exact hs.setElement.setBus fun _ _ _ h => nomatch h

/-- R119: the claim of a written element is emptied, and a PASS in flight stays. -/
theorem State.Bounded.storeElement {s : State} (hs : s.Bounded) (e : Fin 32) (x : ElementEntry) :
    (s.storeElement e x).Bounded := by
  have hvoid : (s.setBus fun b => { b with inFlight := b.inFlight.voidFor e }).Bounded := hs.setBus fun tag address expected => by
    cases hb : s.bus.inFlight <;> simp [Transaction.voidFor]
  exact hvoid.of_claim (by simp [State.storeElement]) rfl Claim.bounded_empty

/-! ## The radio scheduler (R91, R99 to R113) -/

theorem State.Bounded.beginCycle {s : State} (hs : s.Bounded) (number : Byte) : (s.beginCycle number).Bounded := by
  obtain ⟨out, counters, hbegun⟩ := s.beginCycle_eq number
  rw [hbegun]
  refine hs.of_blocks (.refl _) (fun _ _ _ => id) ?_ hs.console hs.claims
  dsimp only
  split
  · exact (List.drop_sublist _ _).length_le.trans hs.answers
  · exact hs.answers

theorem State.Bounded.nextCycle {s : State} (hs : s.Bounded) : s.nextCycle.Bounded := hs.beginCycle _

theorem State.Bounded.lookReady {s : State} (hs : s.Bounded) : s.lookReady.Bounded := hs.of_frame (by simp [State.lookReady])

theorem State.Bounded.linkApplied {s : State} (hs : s.Bounded) : s.linkApplied.Bounded := by
  have hemptied : (s.setRadio fun r => { r with profile := r.pendingProfile, answers := [] }).Bounded :=
    hs.setRadio fun _ => Nat.zero_le 4
  exact hemptied.of_frame (by simp [State.linkApplied, State.lookReady])

theorem State.Bounded.sendDownlink {s : State} (hs : s.Bounded) (i : Fin 24) : (s.sendDownlink i).Bounded :=
  hs.of_frame (by simp [State.sendDownlink])

theorem State.Bounded.openWindow {s : State} (hs : s.Bounded) : s.openWindow.Bounded := by
  rw [State.openWindow]
  split
  · exact hs
  · exact .ite (fun _ => State.Bounded.sendDownlink (hs.of_frame (by simp)) _) fun _ => hs.of_frame (by simp)

theorem State.Bounded.closeWindow {s : State} (hs : s.Bounded) : s.closeWindow.Bounded := by
  rw [State.closeWindow]
  split
  · exact .ite (fun _ => hs.of_frame (by simp)) fun _ => hs.of_frame (by simp)
  · exact hs

theorem State.Bounded.telemetry {s : State} (hs : s.Bounded) (i : Fin 24) (battery : BitVec 16) (status : Byte)
    (payload : List Byte) : (s.telemetry i battery status payload).Bounded := by
  rw [State.telemetry]
  split
  · exact .ite (fun _ => hs.setConsole _ fun hl => hl.pushTelemetry _ _) fun _ => hs
  · exact hs

theorem State.Bounded.takeReply {s : State} (hs : s.Bounded) (i : Fin 24) (battery : BitVec 16) (status : Byte)
    (payload : List Byte) : (s.takeReply i battery status payload).Bounded := by
  rw [State.takeReply]
  split
  · exact (hs.setLink.report _).telemetry i battery status payload
  · exact hs.setLink.telemetry i battery status payload

theorem State.Bounded.countForeign {s : State} (hs : s.Bounded) : s.countForeign.Bounded := hs.countRadio

/-- R110: a join answer joins a queue that has room for it. -/
theorem State.Bounded.placeAnswer {s : State} (hs : s.Bounded) (a : JoinAnswer) : (s.placeAnswer a).Bounded := by
  rw [State.placeAnswer]
  split
  · exact hs
  · split
    case isTrue hroom => exact hs.setRadio fun _ => by rw [List.length_append]; exact hroom
    case isFalse => exact hs.countRadio

theorem State.Bounded.bind {s : State} (hs : s.Bounded) (i : Fin 24) (cause : LinkCause) (kit : BitVec 32) (kitClass : Byte) :
    (s.bind i cause kit kitClass).Bounded :=
  (hs.setLink.setSlot.placeAnswer _).report _

theorem State.Bounded.unknownJoin {s : State} (hs : s.Bounded) (kit : BitVec 32) (kitClass : Byte) :
    (s.unknownJoin kit kitClass).Bounded :=
  .ite (fun _ => hs.countRadio) fun _ => (hs.countRadio.setRadio id).report _

theorem State.Bounded.takeJoin {s : State} (hs : s.Bounded) (arena : Byte) (kit : BitVec 32) (kitClass : Byte) :
    (s.takeJoin arena kit kitClass).Bounded := by
  rw [State.takeJoin]
  split
  · exact hs.countForeign
  · split
    · exact hs.countRadio
    · split
      · exact hs.unknownJoin kit kitClass
      · split
        · exact hs.bind _ _ _ _
        · exact hs.bind _ _ _ _
        · exact hs.bind _ _ _ _
        · exact hs

end Sys2Proof.Machine
end

section
/-! PROOFS. The bounds of every buffer, queue and wait list, over every command and every millisecond (R80, R110, R137, R164, R168,
R172). -/

namespace Sys2Proof.Machine

/-! ## REPLYs formed (R164, R168, R172) -/

/-- R164: a REPLY may be formed when none of its kind waits, and a deferred one when no PASS is in flight. -/
theorem State.Bounded.reply {s : State} {r : Reply} (hs : s.Bounded) (hkind : ∀ x ∈ s.trunk.replies, x.deferred ≠ r.deferred)
    (hbus : r.deferred = true → ∀ tag address expected, s.bus.inFlight ≠ .pass tag address expected) : (s.reply r).Bounded := by
  have hjoined : (s.setTrunk fun t => { t with replies := t.replies ++ [r] }).Bounded := by
    obtain ⟨hbuffer, hreports, hanswers, hconsole, hclaims, hformed, hdeferred, hpass⟩ := hs
    refine ⟨hbuffer, hreports, hanswers, hconsole, hclaims, ?formed, ?deferred, fun tag address expected h x hx => ?pass⟩
    case formed =>
      simp only [State.setTrunk_trunk, List.filter_append, List.length_append]
      cases hr : r.deferred with
      | true => simpa [hr] using hformed
      | false => simpa [hr] using hkind
    case deferred =>
      simp only [State.setTrunk_trunk, List.filter_append, List.length_append]
      cases hr : r.deferred with
      | true => simpa [hr] using hkind
      | false => simpa [hr] using hdeferred
    case pass =>
      rcases List.mem_append.mp hx with hx | hx
      · exact hpass tag address expected h x hx
      · rw [List.mem_singleton.mp hx, ← Bool.not_eq_true]
        exact fun hr => hbus hr tag address expected h
  exact hjoined.setTrunk (Trunk.choose_goesOn _)

/-- R168: a dispatch forms its REPLY while no other dispatch's waits. -/
theorem State.Bounded.answer {s : State} (hs : s.Bounded) (hr : ∀ x ∈ s.trunk.replies, x.deferred = true) (tag : Byte)
    (code : ResultCode) (data : List Byte) : (s.answer tag code data).Bounded :=
  hs.reply (fun x hx => by simp [hr x hx]) nofun

/-! ## Verdicts (R16 to R55, R99, R118 to R160) -/

/-- A verdict whose effect keeps the bounds. -/
def Verdict.KeepsBounds : Verdict → Prop
  | .refuse _ => True
  | .take _ effect => ∀ t : State, t.Bounded → (effect t).Bounded

theorem Verdict.KeepsBounds.require {b : Bool} {code : ResultCode} {v : Verdict} (hv : v.KeepsBounds) :
    (Verdict.require b code v).KeepsBounds := by
  cases b with
  | true => exact hv
  | false => trivial

theorem Verdict.KeepsBounds.need {α : Type} {x : Option α} {code : ResultCode} {k : α → Verdict} (hk : ∀ a, (k a).KeepsBounds) :
    (Verdict.need x code k).KeepsBounds := by
  cases x with
  | some a => exact hk a
  | none => trivial

theorem State.clockOperand_keepsBounds {s : State} {clock : Byte} {k : Half → Verdict} (hk : ∀ h, (k h).KeepsBounds) :
    (s.clockOperand clock k).KeepsBounds := .need fun h => .require (hk h)

theorem Verdict.KeepsBounds.carryOut {s : State} {v : Verdict} (hv : v.KeepsBounds) (hs : s.Bounded)
    (hr : ∀ x ∈ s.trunk.replies, x.deferred = true) (tag : Byte) : (s.carryOut tag v).Bounded := by
  cases v with
  | refuse code => exact hs.answer hr tag code []
  | take code effect => exact hv _ (hs.answer hr tag code [])

theorem TableWrite.verdict_keepsBounds (s : State) (w : TableWrite) : (w.verdict s).KeepsBounds := by
  cases w with
  | matchHeader clock index r =>
    exact State.clockOperand_keepsBounds fun h => .require <| .need fun _ => .require fun _ ht => ht.setTables.autoTurnover h
  | slot clock index r =>
    exact State.clockOperand_keepsBounds fun h => .need fun _ => .require <| .need fun _ => .require <| .require <|
      .require fun _ ht => ht.setTables.autoTurnover h
  | station clock index r =>
    exact State.clockOperand_keepsBounds fun h => .need fun _ => .require <| .need fun _ _ ht => ht.setTables.autoTurnover h
  | schedule clock index r =>
    exact State.clockOperand_keepsBounds fun h => .require <| .need fun _ => .require fun _ ht => ht.setTables.autoTurnover h
  | profile clock index r =>
    exact State.clockOperand_keepsBounds fun h => .need fun _ => .need fun _ _ ht => ht.setTables.autoTurnover h
  | element clock index r => exact .need fun e => .require <| .need fun x => .require fun _ ht => ht.storeElement e x.1
  | arenaLines clock index r => exact .need fun _ => .need fun _ => .need fun _ _ ht => ht.setLine
  | link clock index r => exact .require <| .need fun _ _ ht => ht.setRadio id

/-- The verdict on a COMMAND other than ARENA_RESET (R171). -/
def Command.verdict (s : State) : Command → Option Verdict
  | .turnover clock => some (turnoverVerdict clock s)
  | .start clock => some (startVerdict clock s)
  | .pause clock => some (pauseVerdict clock s)
  | .resume clock => some (resumeVerdict clock s)
  | .advance clock => some (advanceVerdict clock s)
  | .abort clock => some (abortVerdict clock s)
  | .replay clock => some (replayVerdict clock s)
  | .clear clock => some (clearVerdict clock s)
  | .splitSet value => some (splitSetVerdict value s)
  | .fieldStop half => some (fieldStopVerdict half s)
  | .stopClear half => some (stopClearVerdict half s)
  | .override slot value => some (overrideVerdict slot value s)
  | .stationResume line => some (stationResumeVerdict line s)
  | .linkFlagClear slot => some (linkFlagClearVerdict slot)
  | .applyLink => some (applyLinkVerdict s)
  | .busMode mode period => some (busModeVerdict mode period)
  | .elementOutput element output value => some (elementOutputVerdict element output value s)
  | .claimReset element => some (claimResetVerdict element)
  | .captureClear element sensor => some (captureClearVerdict element sensor)
  | .scoreAdjust clock alliance delta => some (scoreAdjustVerdict clock alliance delta s)
  | .countersClear => some (.take .ok State.clearCounters)
  | .arenaReset => none

/-- R171: every COMMAND but ARENA_RESET is carried out by its owner's verdict. -/
theorem State.serveCommand_verdict (s : State) (tag : Byte) (c : Command) : s.serveCommand tag c =
    match c.verdict s with
    | some v => s.carryOut tag v
    | none => s.arenaReset tag := by
  cases c <;> rfl

theorem Command.verdict_keepsBounds {s : State} {c : Command} {v : Verdict} (hv : c.verdict s = some v) : v.KeepsBounds := by
  cases c <;> cases hv
  case turnover clock => exact State.clockOperand_keepsBounds fun h => .require <| .require fun _ ht => ht.turnover h
  case start clock => exact State.clockOperand_keepsBounds fun h => .require <| .require fun _ ht => ht.startMatch h
  case pause clock => exact State.clockOperand_keepsBounds fun h => .require fun _ ht => ht.changeHolds h _
  case resume clock =>
    exact State.clockOperand_keepsBounds fun h => .require <| .require fun _ ht => .ite (fun _ => ht) fun _ => ht.changeHolds h _
  case advance clock => exact State.clockOperand_keepsBounds fun h => .require fun _ ht => ht.setClock.endPhase h
  case abort clock => exact State.clockOperand_keepsBounds fun h => .require fun _ ht => ht.endMatch h
  case replay clock =>
    exact State.clockOperand_keepsBounds fun h => .require fun _ ht =>
      ((ht.arm.reportClock h).flushSilent h).clearScoring.zeroMatch
  case clear clock => exact State.clockOperand_keepsBounds fun h => .require fun _ ht => ht.clearMatch h
  case splitSet value => exact .need fun v => .require fun _ ht => ht.setSplit v
  case fieldStop half => exact State.clockOperand_keepsBounds fun h _ ht => ht.latchStop h .command
  case stopClear half =>
    exact State.clockOperand_keepsBounds fun h => .require fun _ ht => .ite (fun _ => ht.stopCleared h) fun _ => ht
  case override slot value => exact .need fun _ => .need fun _ => .require fun _ ht => ht.setSlot
  case stationResume line =>
    exact .need fun _ => .require fun _ ht => .ite (fun _ => ht.setStation.report _) fun _ => ht
  case linkFlagClear slot => exact .need fun _ _ ht => ht.setSlot
  case applyLink => exact .require fun _ ht => ht.linkApplied.nextCycle
  case busMode mode period =>
    refine .need fun m t ht => ?_
    have hset : (t.setBus fun b => b.request m (clampNat 5 50 period.toNat)).Bounded := ht.setBus fun _ _ _ => id
    exact .ite (fun _ => hset.applyMode) fun _ => hset
  case elementOutput element output value =>
    exact .need fun _ => .need fun _ => .require <| .require fun _ ht => ht.of_frame (by simp)
  case claimReset element => exact .need fun e _ ht => ht.flush .referee e
  case captureClear element sensor => exact .need fun _ => .need fun _ _ ht => ht.of_frame (by simp)
  case scoreAdjust clock alliance delta =>
    exact .need fun _ => .need fun _ => .require <| .require fun _ ht => ht.of_frame (by simp)
  case countersClear =>
    refine fun t ht => ht.of_blocks (.of_eq rfl rfl rfl) (fun _ _ _ => id) ht.answers (fun n => ?_) ht.claims
    simp only [State.clearCounters, Tab.get_update]
    exact ht.console n

/-! ## Resets (R177 to R179) -/

/-- A device with empty buffers and queues, and claims that nobody waits for. -/
theorem State.bounded_of_empty {s : State} (hbuffer : s.trunk.buffer = []) (hreports : s.trunk.reports = [])
    (hreplies : s.trunk.replies = []) (hanswers : s.radio.answers = [])
    (hconsole : ∀ n, (s.console.get n).fifo = [] ∧ (s.console.get n).queue = []) (hclaims : ∀ e, (s.claims.get e).waiters = []) :
    s.Bounded := by
  refine ⟨by simp [hbuffer], by simp [hreports], by simp [hanswers], fun n => ?_, fun e => Claim.bounded_of_alone (hclaims e), ?_⟩
  · obtain ⟨hfifo, hqueue⟩ := hconsole n
    simp [hfifo, hqueue]
  · simp [State.RepliesBounded, hreplies]

theorem State.bounded_arenaCleared (s : State) : s.arenaCleared.Bounded :=
  State.bounded_of_empty rfl rfl rfl rfl (fun n => by simp [State.arenaCleared, ConsoleLine.arenaReset, ConsoleLine.reset])
    fun e => by simp [State.arenaCleared, State.reset, Claim.empty]

theorem State.Bounded.sampleLine {s : State} (hs : s.Bounded) (n : Fin 4) : (s.sampleLine n).Bounded := by
  rw [State.sampleLine]
  split
  · exact .ite (fun _ => State.eachHalf_inv (P := State.Bounded) (fun t h ht => ht.latchStop h _) hs.setLine.deriveHolds _)
      fun _ => hs.setLine.deriveHolds
  · exact hs

theorem State.Bounded.sampleAll {s : State} (hs : s.Bounded) : s.sampleAll.Bounded :=
  .foldl (fun _ n ht => .ite (fun _ => ht.latchStation n) fun _ => ht) _ (.foldl (fun _ n ht => ht.sampleLine n) _ hs)

theorem State.bounded_arenaReset (s : State) (tag : Byte) : (s.arenaReset tag).Bounded :=
  (s.bounded_arenaCleared.answer nofun tag .ok []).sampleAll.lookReady.beginCycle 0

theorem bounded_powerOnReset (levels : BitVec 4) (ready : Bool) (s : State) : (powerOnReset levels ready s).Bounded := by
  refine State.Bounded.beginCycle (State.bounded_of_empty rfl rfl rfl rfl (fun n => ?_) fun e => ?_) 0
  · simp [State.reset, ConsoleLine.reset]
  · simp [State.reset, Claim.empty]

/-! ## Dispatch (R164 to R172) -/

/-- R167: only a PASS frame carries a PASS. -/
theorem kind_of_parse_pass {f : TrunkFrame} {address count expected : Byte} {bytes : List Byte}
    (h : parseRequest f = .ok (.pass address count expected bytes)) : f.kind = 0x04 := by
  unfold parseRequest at h
  split at h
  · unfold parseWrite at h
    repeat' split at h
    all_goals cases h
  · split at h
    · unfold parseRead at h
      repeat' split at h
      all_goals cases h
    · split at h
      · unfold parseCommand at h
        repeat' split at h
        all_goals cases h
      · split at h
        · assumption
        · cases h

/-- R168: what lets a frame at the head of the receive buffer be dispatched. -/
theorem Trunk.mayDispatch_iff (t : Trunk) (f : TrunkFrame) :
    t.mayDispatch f = true ↔ (∀ x ∈ t.replies, x.deferred = true) ∧ (f.kind ≠ 0x04 ∨ t.replies = []) := by
  simp [Trunk.mayDispatch]

/-- R168, R172: a PASS is taken with no REPLY waiting, so none is deferred while it is in flight. -/
theorem State.Bounded.servePass {s : State} (hs : s.Bounded) (hr : s.trunk.replies = []) (tag address count expected : Byte)
    (bytes : List Byte) : (s.servePass tag address count expected bytes).Bounded := by
  rw [State.servePass]
  split
  · exact hs.answer (by simp [hr]) _ _ _
  · obtain ⟨hbuffer, hreports, hanswers, hconsole, hclaims, hformed, hdeferred, -⟩ := hs
    exact ⟨hbuffer, hreports, hanswers, hconsole, hclaims, hformed, hdeferred, fun _ _ _ _ => by simp [hr]⟩

theorem State.Bounded.serve {s : State} (hs : s.Bounded) (hr : ∀ x ∈ s.trunk.replies, x.deferred = true) (tag : Byte)
    {r : Request} (hpass : ∀ address count expected bytes, r = .pass address count expected bytes → s.trunk.replies = []) :
    (s.serve tag r).Bounded := by
  cases r with
  | write w => exact (w.verdict_keepsBounds s).carryOut hs hr tag
  | read table clock bank index =>
    rw [State.serve, State.serveRead]
    split <;> exact hs.answer hr _ _ _
  | command c =>
    rw [State.serve, State.serveCommand_verdict]
    split
    case h_1 v hv => exact (Command.verdict_keepsBounds hv).carryOut hs hr tag
    case h_2 => exact s.bounded_arenaReset tag
  | pass address count expected bytes => exact hs.servePass (hpass _ _ _ _ rfl) _ _ _ _ _

theorem State.Bounded.dispatch {s : State} (hs : s.Bounded) {f : TrunkFrame} (hf : s.trunk.mayDispatch f = true) :
    (s.dispatch f).Bounded := by
  obtain ⟨hr, hkind⟩ := (s.trunk.mayDispatch_iff f).mp hf
  rw [State.dispatch]
  split
  case h_1 r hparse =>
    refine hs.serve hr _ fun address count expected bytes h => ?_
    exact hkind.resolve_left fun hk => hk (kind_of_parse_pass (h ▸ hparse))
  case h_2 => exact hs.answer hr _ _ _

theorem State.Bounded.dispatchFrames : ∀ (frames : List TrunkFrame) {s : State}, s.Bounded →
    (State.dispatchFrames frames s).Bounded
  | [], _, hs => hs
  | f :: rest, s, hs => by
    rw [State.dispatchFrames]
    split
    case isTrue hf =>
      have htaken : (s.setTrunk fun t => { t with buffer := t.buffer.tail }).Bounded :=
        hs.setTrunk ⟨by rw [List.length_tail]; exact Nat.sub_le _ _, id, .refl _⟩
      exact State.Bounded.dispatchFrames rest (htaken.dispatch hf.2)
    case isFalse => exact hs

theorem State.Bounded.pump {s : State} (hs : s.Bounded) : s.pump.Bounded := hs.dispatchFrames _

/-- R166: a good frame joins a receive buffer that has room for it. -/
theorem State.Bounded.acceptFrame {s : State} (hs : s.Bounded) (f : TrunkFrame) : (s.acceptFrame f).Bounded := by
  refine State.Bounded.pump ?_
  rw [State.setTrunk, Trunk.accept]
  split
  case isTrue hroom =>
    obtain ⟨-, hrest⟩ := hs
    exact ⟨by rw [List.length_append]; exact hroom, hrest⟩
  case isFalse => exact hs.setTrunk (f := fun t => { t with counters := { t.counters with overflows := _ } }) (.of_eq rfl rfl rfl)

theorem State.Bounded.submit {s : State} (hs : s.Bounded) (tag : Byte) (r : Request) : (s.submit tag r).Bounded :=
  .ite (fun _ => hs.acceptFrame _) fun _ => hs.setTrunk (.of_eq rfl rfl rfl)

/-! ## Events of the trunk port (R134, R165, R166, R172, R173) -/

theorem State.Bounded.judgeFrame {s : State} (hs : s.Bounded) (bytes : List Byte) (damaged : Bool) :
    (s.judgeFrame bytes damaged).Bounded := by
  have hidle : (s.setTrunk fun t => { t with receiver := .hunting }).Bounded := hs.setTrunk (.of_eq rfl rfl rfl)
  exact .ite (fun _ => hidle.setTrunk (.of_eq rfl rfl rfl)) fun _ => hidle.acceptFrame _

theorem bounded_trunkByteReceived {s : State} (hs : s.Bounded) (b : Byte) (stopBad : Bool) :
    (trunkByteReceived b stopBad s).Bounded := by
  rw [trunkByteReceived]
  split
  · exact .ite (fun _ => hs.setTrunk (.of_eq rfl rfl rfl)) fun _ => hs
  · rw [State.takeTrunkByte]
    split
    · exact .ite (fun _ => hs.setTrunk (.of_eq rfl rfl rfl)) fun _ => hs.setTrunk (.of_eq rfl rfl rfl)
    · exact .ite (fun _ => hs.judgeFrame _ _) fun _ => hs.setTrunk (.of_eq rfl rfl rfl)

theorem bounded_trunkGapTimeout {s : State} (hs : s.Bounded) : (trunkGapTimeout s).Bounded := by
  rw [trunkGapTimeout]
  split
  · exact hs
  · exact hs.setTrunk (.of_eq rfl rfl rfl)

theorem bounded_trunkFrameSent {s : State} (hs : s.Bounded) : (trunkFrameSent s).Bounded :=
  .ite (fun _ => hs) fun _ => (hs.setTrunk (Trunk.sent_goesOn _)).pump

/-- R134: the outcome of a PASS is judged whether or not the bus is free already. -/
theorem State.judgePassEnd_busFreed (s : State) (tag address expected : Byte) (answer : Option BusFrame) :
    (s.judgePassEnd tag address expected answer).busFreed = s.busFreed.judgePassEnd tag address expected answer := by
  simp only [State.judgePassEnd]
  repeat' split
  all_goals rfl

/-- R172: the deferred REPLY of a PASS is formed when its transaction ends, and none was deferred before. -/
theorem State.Bounded.judgePassEnd {s : State} (hs : s.Bounded) (hr : ∀ x ∈ s.trunk.replies, x.deferred = false)
    (hfree : s.bus.inFlight = .none) (tag address expected : Byte) (answer : Option BusFrame) :
    (s.judgePassEnd tag address expected answer).Bounded := by
  have hdeferred : ∀ code data, (s.reply ⟨tag, code, data, true⟩).Bounded := fun code data =>
    hs.reply (fun x hx => by simp [hr x hx]) fun _ _ _ _ => by simp [hfree]
  have hlate : ((s.reply ⟨tag, .timeout, [], true⟩).setBus fun b => { b with passTimeouts := bump b.passTimeouts }).Bounded :=
    (hdeferred _ _).setBus fun _ _ _ => id
  rw [State.judgePassEnd]
  split
  · exact hdeferred _ _
  · split
    · exact hdeferred _ _
    · exact .ite (fun _ => hlate.badAnswer) fun _ => hlate

theorem bounded_passEnd {s : State} (hs : s.Bounded) (answer : Option BusFrame) : (passEnd answer s).Bounded := by
  rw [passEnd]
  split
  case h_1 tag address expected hpass =>
    have hr : ∀ x ∈ s.trunk.replies, x.deferred = false := hs.2.2.2.2.2.2.2 tag address expected hpass
    have hjudged := hs.busFreed.judgePassEnd hr rfl tag address expected answer
    rw [← State.judgePassEnd_busFreed] at hjudged
    simp only [State.endPass, hpass]
    exact hjudged.freeBus.pump
  case h_2 => exact hs

/-! ## Events of the other blocks -/

theorem bounded_tenthEvent {s : State} (hs : s.Bounded) (h : Half) : (tenthEvent h s).Bounded := by
  rw [tenthEvent]
  exact .ite (fun _ => .ite (fun _ => (hs.setClock.claimTenths h).endPhase h) fun _ => hs.setClock.claimTenths h) fun _ => hs

theorem bounded_phaseExpiry {s : State} (hs : s.Bounded) (h : Half) : (phaseExpiry h s).Bounded :=
  .ite (fun _ => hs.setClock.endPhase h) fun _ => hs

theorem bounded_arenaLineRisingEdge {s : State} (hs : s.Bounded) (n : Fin 4) : (arenaLineRisingEdge n s).Bounded := by
  rw [arenaLineRisingEdge]
  dsimp only
  split
  · exact hs
  · split
    · exact State.eachHalf_inv (P := State.Bounded) (fun t h ht => ht.startEdge n h) hs.setLine.deriveHolds _
    · exact State.eachHalf_inv (P := State.Bounded) (fun t h ht => ht.latchStop h _) hs.setLine.deriveHolds _
    · exact hs.setLine.deriveHolds
    · exact hs.setLine.deriveHolds

theorem bounded_arenaLineFallingEdge {s : State} (hs : s.Bounded) (n : Fin 4) : (arenaLineFallingEdge n s).Bounded :=
  .ite (fun _ => hs.setLine.deriveHolds) fun _ => hs

theorem bounded_controlFrame {s : State} (hs : s.Bounded) : (controlFrame s).Bounded := by
  rw [controlFrame]
  split
  · exact hs
  · split
    · exact (hs.takeFrame _).control _ _
    · exact hs

theorem bounded_pingEvent {s : State} (hs : s.Bounded) : (pingEvent s).Bounded := by
  rw [pingEvent]
  split
  · exact hs
  · split
    · exact (hs.takeFrame _).setConsole _ fun hl => hl.pushReply _
    · exact hs

theorem bounded_silenceTimerExpiry {s : State} (hs : s.Bounded) (n : Fin 12) : (silenceTimerExpiry n s).Bounded :=
  .ite (fun _ => hs.setStation.zeroStation) fun _ => hs

theorem bounded_breakStart {s : State} (hs : s.Bounded) (n : Fin 12) : (breakStart n s).Bounded :=
  .ite (fun _ => hs) fun _ => State.Bounded.latchStation (hs.setConsole n fun hl => hl.startBreak) n

theorem bounded_breakEnd {s : State} (hs : s.Bounded) (n : Fin 12) : (breakEnd n s).Bounded :=
  hs.setConsole n fun hl => by split <;> exact hl

theorem bounded_replyReceived {s : State} (hs : s.Bounded) (arena slot : Byte) (kit : BitVec 32) (battery : BitVec 16)
    (status : Byte) (payload : List Byte) : (replyReceived arena slot kit battery status payload s).Bounded := by
  rw [replyReceived]
  split
  case h_1 i good hpart =>
    have hseen : (s.setRadio fun r => { r with
        part := .window i true (good || s.goodReply i arena slot kit payload) }).Bounded := hs.setRadio id
    have hcounted : (if arena = s.radio.profile.arena then s.setRadio fun r => { r with
        part := .window i true (good || s.goodReply i arena slot kit payload) }
        else (s.setRadio fun r => { r with
          part := .window i true (good || s.goodReply i arena slot kit payload) }).countForeign).Bounded :=
      .ite (fun _ => hseen) fun _ => hseen.countForeign
    exact .ite (fun _ => hcounted.takeReply i battery status payload) fun _ => hcounted
  case h_2 => exact hs
  case h_3 => exact hs.countForeign

theorem bounded_joinReceived {s : State} (hs : s.Bounded) (arena : Byte) (kit : BitVec 32) (kitClass : Byte) :
    (joinReceived arena kit kitClass s).Bounded :=
  .ite (fun _ => hs.takeJoin arena kit kitClass) fun _ => hs.countForeign

theorem bounded_radioFrameDamaged {s : State} (hs : s.Bounded) (whole : Bool) (bytes : List Byte) :
    (radioFrameDamaged whole bytes s).Bounded := by
  rw [radioFrameDamaged]
  split
  · exact hs.countRadio
  · exact bounded_replyReceived hs _ _ _ _ _ _
  · exact bounded_joinReceived hs _ _ _

/-- R113: a lost slot's join answer leaves the queue. -/
theorem bounded_livenessExpiry {s : State} (hs : s.Bounded) (i : Fin 24) : (livenessExpiry i s).Bounded :=
  .ite (fun _ => State.Bounded.report (hs.setLink.setSlot.setRadio fun h => (List.length_filter_le _ _).trans h) _) fun _ => hs

theorem bounded_slotWindowBegin {s : State} (hs : s.Bounded) (ready : Bool) : (slotWindowBegin ready s).Bounded :=
  .ite (fun _ => State.Bounded.openWindow (hs.setRadio id)) fun _ => hs

theorem bounded_sweepStart {s : State} (hs : s.Bounded) : (sweepStart s).Bounded :=
  .ite (fun _ => .ite (fun _ => hs.setBus fun _ _ _ => id) fun _ => hs.startSweep) fun _ => hs

theorem bounded_pollBegin {s : State} (hs : s.Bounded) : (pollBegin s).Bounded := by
  rw [pollBegin]
  split
  · split
    · exact hs.beginPoll _
    · exact hs.endSweep
  · exact hs

theorem bounded_pollEnd {s : State} (hs : s.Bounded) (answer : Option BusFrame) : (pollEnd answer s).Bounded := by
  rw [pollEnd]
  split
  case h_1 e void _ =>
    have hjudged : (if void then s else s.judgeAnswer e answer).Bounded := .ite (fun _ => hs) fun _ => hs.judgeAnswer e answer
    exact hjudged.busFreed.freeBus
  case h_2 => exact hs

theorem bounded_strayBytes {s : State} (hs : s.Bounded) : (strayBytes s).Bounded := .ite (fun _ => hs.badAnswer) fun _ => hs

theorem bounded_busResetWaitEnd {s : State} (hs : s.Bounded) : (busResetWaitEnd s).Bounded := by
  have hwaited : (s.setBus fun b => { b with resetWait := false }).Bounded := hs.setBus fun _ _ _ => id
  exact .ite (fun _ => .ite (fun _ => hwaited.startSweep) fun _ => hwaited) fun _ => hs

theorem bounded_holdTimerExpiry {s : State} (hs : s.Bounded) (e : Fin 32) : (holdTimerExpiry e s).Bounded :=
  .ite (fun _ => hs.expireHold e) fun _ => hs

/-! ## One millisecond -/

theorem bounded_tickClock {s : State} (hs : s.Bounded) (h : Half) : (tickClock h s).Bounded :=
  .ite (fun _ => .ite (fun _ => hs.setClock) fun _ => bounded_tenthEvent hs h) fun _ => hs

theorem bounded_tickSilence {s : State} (hs : s.Bounded) (n : Fin 12) : (tickSilence s n).Bounded := by
  rw [tickSilence]
  split
  · exact hs
  · exact .ite (fun _ => bounded_silenceTimerExpiry hs n) fun _ => hs.setStation

theorem bounded_tickLiveness {s : State} (hs : s.Bounded) (i : Fin 24) : (tickLiveness s i).Bounded := by
  rw [tickLiveness]
  split
  · exact hs
  · exact .ite (fun _ => bounded_livenessExpiry hs i) fun _ => hs.setLink

theorem bounded_tickOutputs {s : State} (hs : s.Bounded) : (tickOutputs s).Bounded :=
  hs.of_frame (by simp [tickOutputs])

theorem bounded_tickRadio {s : State} (hs : s.Bounded) : (tickRadio s).Bounded := by
  have hmoved : (s.closeWindow.setRadio fun r => { r with position := s.radio.position + 1 }).Bounded :=
    hs.closeWindow.setRadio id
  simp only [tickRadio]
  split
  · exact hmoved.lookReady.nextCycle
  · split
    · split
      · exact hmoved.setRadio id
      · exact hmoved.lookReady.openWindow
    · exact hmoved.lookReady.openWindow
    · exact .ite (fun _ => hmoved.setRadio id) fun _ => hmoved
    · exact hmoved
    · exact hmoved

theorem bounded_tickBus {s : State} (hs : s.Bounded) : (tickBus s).Bounded := by
  have hpassed : (s.setBus fun b => { b with elapsed := min (s.bus.sinceStart + 1) 50 }).Bounded := hs.setBus fun _ _ _ => id
  exact .ite (fun _ => bounded_busResetWaitEnd hs) fun _ =>
    .ite (fun _ => .ite (fun _ => bounded_sweepStart hpassed) fun _ => hpassed) fun _ => hs

theorem bounded_tick {s : State} (hs : s.Bounded) : (tick s).Bounded := by
  have hclocks := bounded_tickClock (bounded_tickClock hs .a) .b
  have hsilence := hclocks.foldl (fun _ n ht => bounded_tickSilence ht n) (List.finRange 12)
  have hliveness := hsilence.foldl (fun _ i ht => bounded_tickLiveness ht i) (List.finRange 24)
  exact bounded_tickBus (bounded_tickRadio (bounded_tickOutputs hliveness))

/-! ## Every command, every step -/

/-- A row that is an event answers a next state within the bounds. -/
theorem exec_event_bounded {c : Instr} (hc : rowRequest c = none) {s : State} (hs : s.Bounded) :
    ∃ t, exec c s = .next t ∧ t.Bounded := by
  cases c with
  | powerOnReset levels ready => exact ⟨_, rfl, bounded_powerOnReset levels ready s⟩
  | trunkByteReceived byte stopBad => exact ⟨_, rfl, bounded_trunkByteReceived hs byte stopBad⟩
  | trunkGapTimeout => exact ⟨_, rfl, bounded_trunkGapTimeout hs⟩
  | trunkFrameSent => exact ⟨_, rfl, bounded_trunkFrameSent hs⟩
  | tenthEvent clock => exact ⟨_, rfl, bounded_tenthEvent hs clock⟩
  | phaseExpiry clock => exact ⟨_, rfl, bounded_phaseExpiry hs clock⟩
  | arenaLineRisingEdge line => exact ⟨_, rfl, bounded_arenaLineRisingEdge hs line⟩
  | arenaLineFallingEdge line => exact ⟨_, rfl, bounded_arenaLineFallingEdge hs line⟩
  | controlFrame => exact ⟨_, rfl, bounded_controlFrame hs⟩
  | ping => exact ⟨_, rfl, bounded_pingEvent hs⟩
  | silenceTimerExpiry station => exact ⟨_, rfl, bounded_silenceTimerExpiry hs station⟩
  | consoleCharacterReceived line byte framing => exact ⟨_, rfl, hs.setConsole line fun hl => hl.character byte framing⟩
  | gap line => exact ⟨_, rfl, hs.setConsole line fun hl => hl.gap⟩
  | breakStart line => exact ⟨_, rfl, bounded_breakStart hs line⟩
  | breakEnd line => exact ⟨_, rfl, bounded_breakEnd hs line⟩
  | consoleFrameSent line => exact ⟨_, rfl, hs.setConsole line fun hl => hl.sent⟩
  | cycleBegin ready => exact ⟨_, rfl, State.Bounded.nextCycle (hs.setRadio id)⟩
  | slotWindowBegin ready => exact ⟨_, rfl, bounded_slotWindowBegin hs ready⟩
  | slotWindowEnd => exact ⟨_, rfl, hs.closeWindow⟩
  | replyReceived arena slot kit battery status payload => exact ⟨_, rfl, bounded_replyReceived hs _ _ _ _ _ _⟩
  | joinReceived arena kit kitClass => exact ⟨_, rfl, bounded_joinReceived hs _ _ _⟩
  | radioFrameDamaged whole bytes => exact ⟨_, rfl, bounded_radioFrameDamaged hs whole bytes⟩
  | livenessExpiry slot => exact ⟨_, rfl, bounded_livenessExpiry hs slot⟩
  | pulseExpiry element output => exact ⟨_, rfl, hs.of_frame ⟨rfl, rfl, rfl, rfl, rfl⟩⟩
  | blinkPeriodEnd element output => exact ⟨_, rfl, hs.of_frame ⟨rfl, rfl, rfl, rfl, rfl⟩⟩
  | sweepStart => exact ⟨_, rfl, bounded_sweepStart hs⟩
  | pollBegin => exact ⟨_, rfl, bounded_pollBegin hs⟩
  | pollEnd answer => exact ⟨_, rfl, bounded_pollEnd hs answer⟩
  | elementBusStrayBytes bytes => exact ⟨_, rfl, bounded_strayBytes hs⟩
  | passEnd answer => exact ⟨_, rfl, bounded_passEnd hs answer⟩
  | busResetWaitEnd => exact ⟨_, rfl, bounded_busResetWaitEnd hs⟩
  | holdTimerExpiry element => exact ⟨_, rfl, bounded_holdTimerExpiry hs element⟩
  | _ => cases hc

theorem exec_bounded (c : Instr) {s : State} (hs : s.Bounded) : ∃ t, exec c s = .next t ∧ t.Bounded := by
  cases hc : rowRequest c with
  | some r =>
    obtain ⟨tag, ht⟩ := exec_of_rowRequest hc s
    exact ⟨_, ht, hs.submit tag r⟩
  | none => exact exec_event_bounded hc hs

/-- Settles O8: whatever a step does, it does it block by block within the room of every buffer, queue and wait list. -/
theorem stepsKeepQueuesBounded : Obligations.StepsKeepQueuesBounded := by
  intro s t hs ht
  rw [step] at ht
  split at ht
  case h_1 => exact Host.Outcome.next.inj ht ▸ bounded_tick hs
  case h_2 c rest hp =>
    have htaken : ({ s with pending := rest } : State).Bounded := hs.of_frame ⟨rfl, rfl, rfl, rfl, rfl⟩
    obtain ⟨u, hu, hbounded⟩ := exec_bounded c htaken
    rw [hu] at ht
    cases ht
    exact hbounded

end Sys2Proof.Machine
end

section
/-! PROOFS. The trunk port: reports queued, frames sent, requests held back, bytes refused, and COUNTERS_CLEAR (R165 to R168, R173,
R174, R176, chapter 11). -/

namespace Sys2Proof.Machine

/-! ## The transmitter's choice (R173) -/

theorem Trunk.choose_reply {t : Trunk} {r : Reply} {rest : List Reply} (h : t.tx = .idle) (hr : t.replies = r :: rest) :
    t.choose = { t with tx := .reply, wire := r.bytes, replies := rest } := by
  simp only [Trunk.choose, h, hr]

theorem Trunk.choose_report {t : Trunk} {x : Record} {rest : List Record} (h : t.tx = .idle) (hr : t.replies = [])
    (hx : t.reports = x :: rest) : t.choose = { t with tx := .report, wire := x.bytes } := by
  simp only [Trunk.choose, h, hr, hx]

theorem Trunk.choose_quiet {t : Trunk} (hr : t.replies = []) (hx : t.reports = []) : t.choose = t := by
  rw [Trunk.choose, hr, hx]
  split <;> rfl

/-- R173: the choice is a matter of the line alone: no record leaves or joins the queue by it. -/
theorem Trunk.choose_keeps (t : Trunk) : t.choose.receiver = t.receiver ∧ t.choose.buffer = t.buffer ∧
    t.choose.reports = t.reports ∧ t.choose.nextSeq = t.nextSeq ∧ t.choose.counters = t.counters := by
  rw [Trunk.choose]
  repeat' split
  all_goals exact ⟨rfl, rfl, rfl, rfl, rfl⟩

/-! ## Reports (R174) -/

theorem Trunk.record_below {t : Trunk} (h : t.reports.length < 32) (r : Report) :
    t.record r = { t with reports := t.reports ++ [⟨t.nextSeq, r⟩], nextSeq := t.nextSeq + 1 } := if_pos h

theorem Trunk.record_full {t : Trunk} (h : 32 ≤ t.reports.length) (r : Report) : t.record r =
    { t with nextSeq := t.nextSeq + 1, counters := { t.counters with reportLosses := bump t.counters.reportLosses } } :=
  if_neg (Nat.not_lt.mpr h)

/-- Settles O16: the record is numbered and queued, or numbered and dropped, before the transmitter chooses. -/
theorem reportsAreNumberedAndBounded : Obligations.ReportsAreNumberedAndBounded := by
  intro s r
  obtain ⟨-, -, hreports, hnumber, hcounters⟩ := (s.trunk.record r).choose_keeps
  rw [State.report_trunk, hreports, hnumber, hcounters]
  refine ⟨?numbered, fun hroom => ?queued, fun hfull => ?dropped⟩
  case numbered =>
    rcases Nat.lt_or_ge s.trunk.reports.length 32 with hroom | hfull
    · rw [Trunk.record_below hroom]
    · rw [Trunk.record_full hfull]
  case queued => rw [Trunk.record_below hroom]; exact ⟨rfl, rfl⟩
  case dropped => rw [Trunk.record_full hfull]; exact ⟨rfl, rfl⟩

/-! ## The receive buffer (R166, R168) -/

/-- R168: a REPLY formed by a dispatch that still waits holds every frame back. -/
theorem State.dispatchFrames_held {s : State} (h : ∃ x ∈ s.trunk.replies, x.deferred = false) (frames : List TrunkFrame) :
    State.dispatchFrames frames s = s := by
  obtain ⟨x, hx, hformed⟩ := h
  cases frames with
  | nil => rfl
  | cons f rest =>
    refine if_neg fun hf => ?_
    have hdeferred := ((Trunk.mayDispatch_iff _ f).mp hf.2).1 x hx
    rw [hformed] at hdeferred
    cases hdeferred

/-- R166, R168: a row that is a request meets a full receive buffer, its head held back. -/
theorem State.acceptFrame_overflow {s : State} (hfull : s.trunk.buffer.length = 2)
    (hheld : ∃ x ∈ s.trunk.replies, x.deferred = false) (f : TrunkFrame) :
    s.acceptFrame f = { s with trunk := { s.trunk with
      counters := { s.trunk.counters with overflows := bump s.trunk.counters.overflows } } } := by
  have haccept : s.setTrunk (·.accept f) = { s with trunk := { s.trunk with
      counters := { s.trunk.counters with overflows := bump s.trunk.counters.overflows } } } := by
    rw [State.setTrunk, Trunk.accept, if_neg (by rw [hfull]; exact Nat.lt_irrefl 2)]
  rw [State.acceptFrame, haccept, State.pump]
  exact State.dispatchFrames_held (by exact hheld) _

/-- R165: the frame of a well-formed row fits the trunk's length field. -/
theorem rowRequest_fits {c : Instr} {r : Request} (hw : c.wellFormed = true) (hr : rowRequest c = some r) (tag : Byte) :
    (r.frame tag).body.length + 2 ≤ 255 := by
  cases r with
  | write w => exact Laws.fits_of_write hr hw tag _ hr
  | command k => exact Laws.fits_of_command hr hw tag _ hr
  | read table clock bank index => cases c <;> cases hr
  | pass address count expected bytes =>
    cases c <;> cases hr
    exact Laws.Fits.pass _ _ _ _ _ hw tag _ rfl

/-- Settles O15: the row brings a frame that fits, so the full buffer turns it away, and the waiting REPLY holds the rest back. -/
theorem fullBufferDiscardsRequests : Obligations.FullBufferDiscardsRequests := by
  intro c s hw hrow hfull hwaits
  obtain ⟨r, hr⟩ := Option.ne_none_iff_exists'.mp hrow
  obtain ⟨tag, htag⟩ := exec_of_rowRequest hr s
  have hheld : ∃ x ∈ s.trunk.replies, x.deferred = false := by simpa using hwaits
  rw [htag, State.submit, if_pos (rowRequest_fits hw hr tag), State.acceptFrame_overflow hfull hheld]

/-! ## The end of a transmission (R168, R173) -/

theorem Trunk.sent_reply {t : Trunk} {r : Reply} {more : List Reply} (hr : t.replies = r :: more) : t.sent = { t with
    tx := .reply, wire := r.bytes, replies := more, reports := if t.tx = .report then t.reports.tail else t.reports } :=
  Trunk.choose_reply rfl hr

theorem State.pump_dispatch {s : State} {f : TrunkFrame} {rest : List TrunkFrame} (hb : s.trunk.buffer = f :: rest)
    (hf : s.trunk.mayDispatch f = true) :
    s.pump = State.dispatchFrames rest (({ s with trunk := { s.trunk with buffer := rest } } : State).dispatch f) := by
  rw [State.pump, hb, State.dispatchFrames, if_pos ⟨by rw [hb]; rfl, hf⟩, State.setTrunk, hb, List.tail_cons]

theorem State.pump_held {s : State} {f : TrunkFrame} {rest : List TrunkFrame} (hb : s.trunk.buffer = f :: rest)
    (hf : ¬ s.trunk.mayDispatch f = true) : s.pump = s := by
  rw [State.pump, hb, State.dispatchFrames, if_neg fun h => hf h.2]

theorem exec_trunkFrameSent {s : State} (h : s.trunk.tx ≠ .idle) :
    exec .trunkFrameSent s = .next ({ s with trunk := s.trunk.sent } : State).pump :=
  congrArg Host.Outcome.next (if_neg h)

/-- Settles O14: the transmitter's choice, and the dispatch that a beginning REPLY lets go on. -/
theorem transmitterPrefersReplies : Obligations.TransmitterPrefersReplies := by
  refine ⟨fun s htx hbuffer => ?empty, fun s f rest r more htx hbuffer hreplies => ?waiting⟩
  case empty =>
    obtain ⟨-, hkept, hreports, -, -⟩ := Trunk.choose_keeps
      { s.trunk with tx := .idle, wire := [], reports := if s.trunk.tx = .report then s.trunk.reports.tail else s.trunk.reports }
    have hnone : s.trunk.sent.buffer = [] := hkept.trans hbuffer
    refine ⟨_, (exec_trunkFrameSent htx).trans (congrArg _ (State.pump_empty hnone)), rfl, hreports,
      fun r more hr => ?reply, fun x rest hr hx => ?report, fun hr hx => ?rest⟩
    case reply => simp only [Trunk.sent_reply hr, and_self]
    case report =>
      have hsent : s.trunk.sent = _ := Trunk.choose_report rfl hr (hreports.symm.trans hx)
      simp only [hsent, and_self]
    case rest =>
      have hsent : s.trunk.sent = _ := Trunk.choose_quiet hr (hreports.symm.trans hx)
      simp only [hsent, and_self]
  case waiting =>
    rw [exec_trunkFrameSent htx, Trunk.sent_reply hreplies]
    refine ⟨fun hheld => congrArg _ (State.pump_held hbuffer fun hf => ?held), fun hdeferred hkind hnext => congrArg _ ?dispatched⟩
    case held =>
      obtain ⟨hdeferred, hkind⟩ := (Trunk.mayDispatch_iff _ f).mp hf
      rcases hheld with ⟨x, hx, hformed⟩ | ⟨hpass, hmore⟩
      · exact absurd (hdeferred x hx) (by rw [hformed]; exact Bool.false_ne_true)
      · exact hkind.elim (absurd hpass) hmore
    case dispatched =>
      refine (State.pump_dispatch (by exact hbuffer) ((Trunk.mayDispatch_iff _ f).mpr ⟨hdeferred, hkind⟩)).trans ?_
      rcases hnext with hrest | hformed
      · rw [hrest]; rfl
      · exact State.dispatchFrames_held hformed rest

/-! ## Reception (R165) -/

theorem word16_toNat (high low : Byte) : (word16 high low).toNat = high.toNat * 256 + low.toNat := by
  rw [word16, BitVec.toNat_append, ← Nat.shiftLeft_add_eq_or_of_lt low.isLt, Nat.shiftLeft_eq]

theorem trunkByteReceived_hunting {s : State} (h : s.trunk.receiver = .hunting) (b : Byte) (stopBad : Bool) :
    trunkByteReceived b stopBad s =
      if b = 0xA5 ∧ stopBad = false then s.setTrunk fun t => { t with receiver := .receiving [] false } else s := by
  simp only [trunkByteReceived, h]

theorem trunkByteReceived_receiving {s : State} {bytes : List Byte} {damaged : Bool} (h : s.trunk.receiver = .receiving bytes damaged)
    (b : Byte) (stopBad : Bool) : trunkByteReceived b stopBad s = s.takeTrunkByte (bytes ++ [b]) (damaged || stopBad) := by
  simp only [trunkByteReceived, h]

/-- Settles O13: the sync byte, the length test and the pause, by the state of the receiver. -/
theorem trunkReceptionAbandonsBadFrames : Obligations.TrunkReceptionAbandonsBadFrames := by
  refine ⟨⟨fun s b stopBad hunting => ?sync, fun s high low damaged stopBad hone => congrArg Host.Outcome.next ?length⟩,
    fun s => ?pause⟩
  case sync =>
    refine (congrArg Host.Outcome.next (trunkByteReceived_hunting hunting b stopBad)).trans ?_
    split <;> rfl
  case length =>
    rw [trunkByteReceived_receiving hone, State.takeTrunkByte, if_pos (show ([high] ++ [low]).length = 2 from rfl),
      show wordAt ([high] ++ [low]) 0 = word16 high low from rfl, word16_toNat]
    split <;> rfl
  case pause =>
    refine (congrArg Host.Outcome.next (trunkGapTimeout.eq_def s)).trans ?_
    cases hreceiver : s.trunk.receiver with
    | hunting => rfl
    | receiving bytes damaged => exact (if_neg nofun).symm

/-! ## Decode of encode (chapter 11, R167) -/

theorem parse_read (tag : Byte) (table : ReadTable) (clock bank index : Byte) :
    parseRequest ((Request.read table clock bank index).frame tag) = .ok (.read table clock bank index) := by
  simp [Request.frame, parseRequest, parseRead, byteAt]

/-- Settles O11, by the kind of the request. -/
theorem requestsReadBackFromTheirFrames : Obligations.RequestsReadBackFromTheirFrames := by
  intro tag r hcount
  cases r with
  | write w => exact parse_write tag w
  | read table clock bank index => exact parse_read tag table clock bank index
  | command c => exact parse_command tag c
  | pass address count expected bytes => exact parse_pass (hcount address count expected bytes rfl) tag address expected

/-! ## COUNTERS_CLEAR (R176) -/

/-- Settles O7: the command is answered, and the whole of its effect is `State.clearCounters`. -/
theorem countersClearZeroesTheCounters : Obligations.CountersClearZeroesTheCounters := by
  intro s tag hs
  have hserved : s.submit tag (.command .countersClear) = (s.replied tag .ok).clearCounters :=
    State.submit_command hs tag .countersClear
  refine ⟨(s.replied tag .ok).clearCounters, congrArg Host.Outcome.next hserved, rfl, ?_, ?_, ?_, ?_, ?_, ?_⟩ <;>
    intro n <;> rw [State.clearCounters, Tab.get_update] <;> rfl

end Sys2Proof.Machine
end

section
/-! PROOFS. Power-on reset: its values, the invariants it meets and its first cycle (R177, R40, R100 to R102). -/

namespace Sys2Proof.Machine

/-- Settles O4: each value stands in the definition of the reset state; with nothing in any queue it is bounded, and with both
clocks at rest it is settled. -/
theorem resetMeetsItsValuesAndInvariants : Obligations.ResetMeetsItsValuesAndInvariants := by
  refine ⟨⟨?clocks, rfl, rfl, ?lines, ?slots, ?stations, ?elements, rfl, rfl, rfl, rfl, rfl, rfl⟩, ?bounded, ?settled, ?rests⟩
  case clocks => intro h; cases h <;> exact ⟨rfl, rfl, rfl, rfl⟩
  case lines => intro n; simp [State.reset, ArenaLine.reset]
  case slots => intro i; simp [State.reset, SlotAdmission.reset, SlotLink.reset]
  case stations => intro n; simp [State.reset, StationAdmission.reset, ConsoleLine.reset]
  case elements => intro e; simp [State.reset, ElementEntry.empty, ElementLink.reset, Claim.empty]
  case bounded =>
    exact State.bounded_of_empty rfl rfl rfl rfl (by simp [State.reset, ConsoleLine.reset]) (by simp [State.reset, Claim.empty])
  case settled => intro h; cases h <;> exact Clock.settled_of_rest rfl rfl rfl
  case rests => exact fun _ => rfl

/-! ## The first cycle (R100 to R102) -/

/-- R101: a cycle whose windows find room in its period. -/
theorem State.beginCycle_unstretched {s : State} (hroom : s.radio.profile.need s.windowList.length ≤ s.radio.profile.period)
    (number : Byte) : s.beginCycle number = ({ s with radio := s.radio.begun number s.windowList } : State).sendBeacon := by
  have hshort : ¬ s.radio.profile.period < s.radio.profile.need s.windowList.length := Nat.not_lt.mpr hroom
  simp only [State.beginCycle, Radio.begun, State.setRadio, hshort, decide_false, Bool.false_eq_true, if_false, max_eq_left hroom]

/-- R105: the beacon reaches a ready transceiver. -/
theorem State.sendBeacon_ready {s : State} (h : s.radio.ready = true) :
    s.sendBeacon = { s with radio := { s.radio with out := s.beacon, answers := s.radio.answers.drop 2 } } := by
  simp only [State.sendBeacon, State.setRadio, h, if_true]

/-- R105: a beacon that a transceiver is not ready for is counted. -/
theorem State.sendBeacon_notReady {s : State} (h : s.radio.ready = false) : s.sendBeacon = { s with radio := { s.radio with
    counters := { s.radio.counters with notReady := bump s.radio.counters.notReady } } } := by
  simp only [State.sendBeacon, State.setRadio, h, Bool.false_eq_true, if_false]

theorem State.reset_windowList : State.reset.windowList = [] := by decide +kernel

theorem State.reset_beacon : State.reset.beacon = resetBeacon := by decide +kernel

/-- R177, R40: every block at its power-on values and the arena lines sampled, before the first cycle. -/
def State.poweredOn (levels : BitVec 4) (ready : Bool) (looks : Nat) (pending : List Instr) : State :=
  { State.reset with
    lines := .build fun n => .powerOn (levels.getLsb n)
    radio := { Radio.reset with ready := ready, looks := looks, out := [] }
    pending := pending }

/-- R101: no slot is bound, so cycle 0 has no window. -/
theorem powerOnReset_eq (levels : BitVec 4) (ready : Bool) (s : State) : powerOnReset levels ready s =
    ({ State.poweredOn levels ready s.radio.looks s.pending with
      radio := (State.poweredOn levels ready s.radio.looks s.pending).radio.begun 0 [] } : State).sendBeacon := by
  have hlist : (State.poweredOn levels ready s.radio.looks s.pending).windowList = [] := State.reset_windowList
  have hroom : LinkProfile.reset.need 0 ≤ LinkProfile.reset.period := by decide
  have hcycle := State.beginCycle_unstretched (s := State.poweredOn levels ready s.radio.looks s.pending)
    (by rw [hlist]; exact hroom) 0
  rw [hlist] at hcycle
  exact hcycle

/-- Settles O5: cycle 0 begins with no window, and its beacon is that of the reset state. -/
theorem powerOnResetRestoresEveryBlock : Obligations.PowerOnResetRestoresEveryBlock := by
  intro levels ready s
  refine ⟨_, congrArg Host.Outcome.next (powerOnReset_eq levels ready s), rfl, fun n => ?lines, ?radio⟩
  case lines =>
    refine (Tab.get_build _ n).trans ?_
    cases levels.getLsb n <;> rfl
  case radio =>
    cases ready with
    | true =>
      rw [State.sendBeacon_ready rfl, if_pos rfl, ← State.reset_beacon]
      rfl
    | false => rw [State.sendBeacon_notReady rfl]; rfl

end Sys2Proof.Machine
end

section
/-! PROOFS. ARENA_RESET (R178, R179): what is cleared, what the samples of the arena lines and of the console lines add, and the
first cycle. -/

namespace Sys2Proof.Machine

/-! ## A device with no match (R177, R178) -/

/-- R178: no clock is started and no hold cause of a match is set, no element is claimed, every slot is at its power-on values,
and no silence timer runs. -/
structure State.Resting (s : State) : Prop where
  clocks : ∀ h, (s.clocks.get h).state = .idle ∧ (s.clocks.get h).commandHold = false ∧ (s.clocks.get h).stopHold = false
  claims : ∀ e, s.claims.get e = .empty
  slots : s.slots = State.reset.slots
  silence : ∀ n, (s.stations.get n).silence = none

theorem State.Resting.congr {s t : State} (hs : s.Resting) (hclocks : t.clocks = s.clocks) (hclaims : t.claims = s.claims)
    (hslots : t.slots = s.slots) (hstations : t.stations = s.stations) : t.Resting :=
  ⟨hclocks ▸ hs.clocks, hclaims ▸ hs.claims, hslots.trans hs.slots, hstations ▸ hs.silence⟩

theorem State.Resting.not_started {s : State} (hs : s.Resting) (h : Half) : (s.clocks.get h).state.started = false := by
  rw [(hs.clocks h).1]
  rfl

/-- R148: a field stop has no claim to flush. -/
theorem State.Resting.flushStopped {s : State} (hs : s.Resting) (h : Half) : s.flushStopped h = s := by
  refine foldl_inv (fun t => t = s) _ (fun t e ht => ?_) _ s rfl
  subst ht
  have hfree : t.flush .stopped e = t := if_pos (by rw [hs.claims]; exact ⟨rfl, rfl⟩)
  rw [hfree, ite_self]

/-- R147: a stopped station has no claim to give up. -/
theorem State.Resting.dropClaims {s : State} (hs : s.Resting) (n : Fin 12) : s.dropClaims n = s := by
  refine foldl_inv (fun t => t = s) _ (fun t e ht => ?_) _ s rfl
  subst ht
  rw [State.dropStation, hs.claims]
  rfl

/-- R53: a stopped station has no target to zero. -/
theorem State.Resting.zeroStation {s : State} (hs : s.Resting) (n : Fin 12) : s.zeroStation n = s := by
  have hsame : (s.slots.update fun i x => if (s.slotEntry i).station = some n then x.zeroTargets else x) = s.slots := by
    refine Tab.ext fun i => ?_
    have hzero : (s.slots.get i).zeroTargets = s.slots.get i := by
      simp [hs.slots, State.reset, SlotAdmission.reset, SlotAdmission.zeroTargets]
    rw [Tab.get_update, hzero, ite_self]
  rw [State.zeroStation, State.setSlots, hsame]

/-! ## What the samples touch (R40, R178) -/

/-- A state that differs from a first one in the clocks, the lines, the stations and what the trunk port sends, and that still
has no match. -/
structure State.Sampled (s t : State) : Prop where
  frame : t = { s with clocks := t.clocks, lines := t.lines, stations := t.stations, trunk := t.trunk }
  buffer : t.trunk.buffer = s.trunk.buffer
  receiver : t.trunk.receiver = s.trunk.receiver
  rests : t.Resting

theorem State.Resting.sampled_refl {s : State} (hs : s.Resting) : s.Sampled s := ⟨rfl, rfl, rfl, hs⟩

theorem State.Sampled.trans {s t u : State} (h : s.Sampled t) (k : t.Sampled u) : s.Sampled u :=
  ⟨k.frame.trans (by rw [h.frame]), k.buffer.trans h.buffer, k.receiver.trans h.receiver, k.rests⟩

theorem State.Sampled.console {s t : State} (h : s.Sampled t) : t.console = s.console := (congrArg State.console h.frame :)

theorem State.Sampled.targets {s t : State} (h : s.Sampled t) : t.targets = s.targets :=
  (State.halves_congr (congrArg State.split h.frame :)).2.2.2

theorem Trunk.record_input (t : Trunk) (r : Report) : (t.record r).buffer = t.buffer ∧ (t.record r).receiver = t.receiver := by
  rw [Trunk.record]
  split <;> exact ⟨rfl, rfl⟩

theorem State.Resting.report {s : State} (hs : s.Resting) (r : Report) : s.Sampled (s.report r) := by
  obtain ⟨hreceiver, hbuffer, -⟩ := (s.trunk.record r).choose_keeps
  obtain ⟨hbuffer', hreceiver'⟩ := s.trunk.record_input r
  exact ⟨rfl, hbuffer.trans hbuffer', hreceiver.trans hreceiver', hs.congr rfl rfl rfl rfl⟩

theorem State.Resting.setClock {s : State} (hs : s.Resting) {h : Half} {f : Clock → Clock}
    (hf : let c := f (s.clocks.get h); c.state = .idle ∧ c.commandHold = false ∧ c.stopHold = false) :
    s.Sampled (s.setClock h f) := by
  refine ⟨rfl, rfl, rfl, fun k => ?_, hs.claims, hs.slots, hs.silence⟩
  rw [State.setClock_clocks, PerHalf.get_modify]
  split
  case isTrue hk => exact hk ▸ hf
  case isFalse => exact hs.clocks k

/-- R42: a line hold set or cleared starts and pauses no clock that is at rest. -/
theorem State.Resting.deriveHold {s : State} (hs : s.Resting) (h : Half) : s.Sampled (s.deriveHold h) := by
  have hheld : s.Sampled (s.setClock h fun _ => ({ s.clocks.get h with lineHold := s.lineHold h } : Clock).settle) := by
    obtain ⟨hidle, hcommand, hstop⟩ := hs.clocks h
    refine hs.setClock ⟨?_, hcommand, hstop⟩
    rw [Clock.settle, hidle]
    rfl
  rw [State.deriveHold, State.changeHolds]
  split
  · exact hheld
  · exact hheld.trans (hheld.rests.report _)

theorem State.Resting.deriveHolds {s : State} (hs : s.Resting) : s.Sampled s.deriveHolds :=
  (hs.deriveHold .a).trans ((hs.deriveHold .a).rests.deriveHold .b)

/-- R44: the stop of a half without a match is its latch and the report of it. -/
theorem State.Resting.latchStop {s : State} (hs : s.Resting) (h : Half) (source : StopSource) : s.Sampled (s.latchStop h source) := by
  have hlatched : s.Sampled ((s.setClock h fun c => { c with fieldStop := true }).report (.stop h source true)) :=
    have hset := hs.setClock (h := h) (f := fun c => { c with fieldStop := true }) (hs.clocks h)
    hset.trans (hset.rests.report _)
  rw [State.latchStop]
  split
  · exact hs.sampled_refl
  · rw [hs.not_started h]
    simp only [Bool.false_eq_true, if_false, hlatched.rests.flushStopped h]
    exact hlatched

theorem State.Resting.sampleLine {s : State} (hs : s.Resting) (n : Fin 4) : s.Sampled (s.sampleLine n) := by
  have hset : s.Sampled (s.setLine n fun y => { y with engaged := some ⟨y.action, y.target⟩ }) :=
    ⟨rfl, rfl, rfl, hs.congr rfl rfl rfl rfl⟩
  have hengaged := hset.trans hset.rests.deriveHolds
  rw [State.sampleLine]
  split
  · split
    · exact State.eachHalf_inv (P := s.Sampled) (fun t h ht => ht.trans (ht.rests.latchStop h _)) hengaged _
    · exact hengaged
  · exact hs.sampled_refl

/-- R53: the stop of a station without a match is its latch and the report of it. -/
theorem State.Resting.latchStation {s : State} (hs : s.Resting) (n : Fin 12) : s.Sampled (s.latchStation n) := by
  have hset : s.Sampled (s.setStation n fun x => { x with stopLatch := true, silence := none }) := by
    refine ⟨rfl, rfl, rfl, hs.clocks, hs.claims, hs.slots, fun m => ?_⟩
    rw [State.setStation_stations, Tab.get_modify]
    split
    · rfl
    · exact hs.silence m
  have hlatched := hset.trans (hset.rests.report (.stationStop n true))
  rw [State.latchStation]
  split
  · exact hs.sampled_refl
  · rw [hlatched.rests.zeroStation, hlatched.rests.dropClaims]
    exact hlatched

theorem State.Resting.sampleConsole {s : State} (hs : s.Resting) (n : Fin 12) : s.Sampled (s.sampleConsole n) := by
  rw [State.sampleConsole]
  split
  · exact hs.latchStation n
  · exact hs.sampled_refl

/-- R178: the samples of the arena lines. -/
def State.sampleLines (s : State) : State := (List.finRange 4).foldl State.sampleLine s

theorem State.sampleAll_eq (s : State) : s.sampleAll = (List.finRange 12).foldl State.sampleConsole s.sampleLines := rfl

theorem State.Resting.sampleLines {s : State} (hs : s.Resting) : s.Sampled s.sampleLines :=
  foldl_inv s.Sampled State.sampleLine (fun _ n ht => ht.trans (ht.rests.sampleLine n)) _ s hs.sampled_refl

theorem State.Resting.sampleAll {s : State} (hs : s.Resting) : s.Sampled s.sampleAll :=
  foldl_inv s.Sampled State.sampleConsole (fun _ n ht => ht.trans (ht.rests.sampleConsole n)) _ _ hs.sampleLines

/-! ## What the samples find (R40, R43, R96) -/

/-- R40: an asserted line is engaged with its configured action and target. -/
def ArenaLine.sampled (x : ArenaLine) : ArenaLine := if x.level then { x with engaged := some ⟨x.action, x.target⟩ } else x

/-- R40, R42: a line taken up with its configuration, and the line holds it gives. -/
def State.engageLine (s : State) (n : Fin 4) : State :=
  (s.setLine n fun y => { y with engaged := some ⟨y.action, y.target⟩ }).deriveHolds

theorem State.engageLine_lines (s : State) (n : Fin 4) : (s.engageLine n).lines =
    s.lines.modify n fun y => { y with engaged := some ⟨y.action, y.target⟩ } := by
  simp [State.engageLine]

theorem State.engageLine_fieldStop (s : State) (n : Fin 4) (h : Half) :
    ((s.engageLine n).clocks.get h).fieldStop = (s.clocks.get h).fieldStop := by
  rw [State.engageLine, State.deriveHolds_clocks]
  rfl

theorem State.sampleLine_released {s : State} {n : Fin 4} (h : (s.lines.get n).level = false) : s.sampleLine n = s :=
  if_neg (by simp [h])

theorem State.sampleLine_asserted {s : State} {n : Fin 4} (h : (s.lines.get n).level = true) : s.sampleLine n =
    if (s.lines.get n).action = .stop then (s.engageLine n).eachHalf (s.lines.get n).target fun t k => t.latchStop k (.line n)
    else s.engageLine n := if_pos h

theorem State.sampleLine_lines (s : State) (n m : Fin 4) :
    (s.sampleLine n).lines.get m = if n = m then (s.lines.get n).sampled else s.lines.get m := by
  cases hlevel : (s.lines.get n).level with
  | false =>
    rw [State.sampleLine_released hlevel, ArenaLine.sampled, hlevel]
    split
    case isTrue hm => rw [← hm]; rfl
    case isFalse => rfl
  | true =>
    have hengaged : (s.sampleLine n).lines = (s.engageLine n).lines := by
      rw [State.sampleLine_asserted hlevel]
      split
      · exact State.eachHalf_inv (P := fun t => t.lines = (s.engageLine n).lines) (fun t k ht => by simpa using ht) rfl _
      · rfl
    rw [hengaged, State.engageLine_lines, Tab.get_modify, ArenaLine.sampled, if_pos hlevel]
    split
    case isTrue hm => rw [hm]
    case isFalse => rfl

/-- R44: the halves a STOP line targets are latched, and the other keeps its latch. -/
theorem State.eachHalf_latchStop (s : State) (target : LineTarget) (source : StopSource) (h : Half) :
    ((s.eachHalf target fun t k => t.latchStop k source).clocks.get h).fieldStop =
      ((s.clocks.get h).fieldStop || s.targets target h) := by
  have hown (t : State) (k : Half) : ((if s.targets target k then t.latchStop k source else t).clocks.get k).fieldStop =
      ((t.clocks.get k).fieldStop || s.targets target k) := by
    cases s.targets target k
    · exact (Bool.or_false _).symm
    · rw [if_pos rfl, State.latchStop_latches, Bool.or_true]
  have hother (t : State) {j k : Half} (hk : j ≠ k) :
      (if s.targets target j then t.latchStop j source else t).clocks.get k = t.clocks.get k := by
    split
    · exact (t.latchStop_other source hk).1
    · rfl
  cases h with
  | a => simp only [State.eachHalf, hother _ (show Half.b ≠ .a from nofun), hown]
  | b => simp only [State.eachHalf, hown, hother _ (show Half.a ≠ .b from nofun)]

/-- R178: an asserted line whose action is STOP and whose target includes the half. -/
def State.assertsStop (s : State) (h : Half) (n : Fin 4) : Bool :=
  (s.lines.get n).level && (decide ((s.lines.get n).action = .stop) && s.targets (s.lines.get n).target h)

theorem State.sampleLine_fieldStop (s : State) (n : Fin 4) (h : Half) :
    ((s.sampleLine n).clocks.get h).fieldStop = ((s.clocks.get h).fieldStop || s.assertsStop h n) := by
  have htargets : (s.engageLine n).targets = s.targets := (State.halves_congr (by simp [State.engageLine])).2.2.2
  cases hlevel : (s.lines.get n).level with
  | false => simp [State.sampleLine_released hlevel, State.assertsStop, hlevel]
  | true =>
    rw [State.sampleLine_asserted hlevel, State.assertsStop, hlevel, Bool.true_and]
    by_cases hstop : (s.lines.get n).action = .stop
    · rw [if_pos hstop, decide_eq_true hstop, Bool.true_and, State.eachHalf_latchStop, State.engageLine_fieldStop, htargets]
    · rw [if_neg hstop, decide_eq_false hstop, Bool.false_and, Bool.or_false, State.engageLine_fieldStop]

/-- A fold that sets a flag for every marked member of a list. -/
theorem foldl_any {ι : Type} (flag : State → Bool) (f : State → ι → State) (mark : ι → Bool) (inv : State → Prop)
    (hi : ∀ t x, inv t → inv (f t x)) (hf : ∀ t x, inv t → flag (f t x) = (flag t || mark x)) :
    ∀ (l : List ι) (s : State), inv s → flag (l.foldl f s) = (flag s || l.any mark)
  | [], s, _ => (Bool.or_false _).symm
  | x :: l, s, hs => by
    rw [List.foldl_cons, foldl_any flag f mark inv hi hf l (f s x) (hi s x hs), hf s x hs, List.any_cons, Bool.or_assoc]

theorem State.sampleLines_lines (s : State) (n : Fin 4) : s.sampleLines.lines.get n = (s.lines.get n).sampled := by
  rw [State.sampleLines, foldl_cell (fun t m => t.lines.get m) State.sampleLine (fun _ x => x.sampled) (fun _ => True)
    (fun _ _ _ => trivial) (fun t m k _ => t.sampleLine_lines m k) _ s n (List.nodup_finRange 4) trivial, if_pos (List.mem_finRange n)]

theorem ArenaLine.sampled_keeps (x : ArenaLine) : x.sampled.action = x.action ∧ x.sampled.target = x.target
    ∧ x.sampled.level = x.level ∧ x.sampled.ignoredStarts = x.ignoredStarts := by
  rw [ArenaLine.sampled]
  split <;> exact ⟨rfl, rfl, rfl, rfl⟩

theorem ArenaLine.sampled_engaged {x : ArenaLine} (h : x.engaged = none) :
    x.sampled.engaged = if x.level then some ⟨x.action, x.target⟩ else none := by
  rw [ArenaLine.sampled]
  split
  · rfl
  · exact h

/-- R178: a sample changes no level and no configuration, so what the lines assert stays. -/
theorem State.Resting.sampleLine_assertsStop {s : State} (hs : s.Resting) (n : Fin 4) :
    (s.sampleLine n).assertsStop = s.assertsStop := by
  have htargets := (hs.sampleLine n).targets
  funext h m
  rw [State.assertsStop, State.assertsStop, htargets, State.sampleLine_lines]
  split
  case isTrue hm =>
    obtain ⟨haction, htarget, hlevel, -⟩ := (s.lines.get n).sampled_keeps
    rw [haction, htarget, hlevel, hm]
  case isFalse => rfl

/-- R43, R178: on lines that were not engaged, with no latch set, the samples latch exactly the halves of the engaged STOP lines. -/
theorem State.Resting.sampleLines_fieldStop {s : State} (hs : s.Resting) (hlines : ∀ n, (s.lines.get n).engaged = none)
    (hstops : ∀ h, (s.clocks.get h).fieldStop = false) (h : Half) :
    (s.sampleLines.clocks.get h).fieldStop = s.sampleLines.engagedWith .stop h := by
  have hlatched : (s.sampleLines.clocks.get h).fieldStop = ((s.clocks.get h).fieldStop || (List.finRange 4).any (s.assertsStop h)) :=
    foldl_any (fun t => (t.clocks.get h).fieldStop) State.sampleLine (s.assertsStop h)
      (fun t => t.Resting ∧ t.assertsStop = s.assertsStop)
      (fun t n ht => ⟨(ht.1.sampleLine n).rests, (ht.1.sampleLine_assertsStop n).trans ht.2⟩)
      (fun t n ht => by rw [t.sampleLine_fieldStop n h, ht.2]) _ s ⟨hs, rfl⟩
  have htargets := hs.sampleLines.targets
  rw [hlatched, hstops, Bool.false_or, ← State.lineStops_any]
  congr 1
  funext n
  rw [State.lineStops, State.sampleLines_lines, ArenaLine.sampled_engaged (hlines n), htargets, State.assertsStop]
  cases (s.lines.get n).level <;> rfl

theorem State.latchStation_stopLatch (s : State) (n m : Fin 12) :
    ((s.latchStation n).stations.get m).stopLatch = if n = m then true else (s.stations.get m).stopLatch := by
  cases h : (s.stations.get n).stopLatch with
  | true =>
    rw [State.latchStation_set h]
    split
    case isTrue hm => rw [← hm, h]
    case isFalse => rfl
  | false =>
    rw [State.latchStation_clear h]
    simp [Tab.get_modify, apply_ite StationAdmission.stopLatch]

theorem State.sampleConsole_stopLatch (s : State) (n m : Fin 12) : ((s.sampleConsole n).stations.get m).stopLatch =
    if n = m then (s.stations.get n).stopLatch || (s.console.get n).breakPresent else (s.stations.get m).stopLatch := by
  rw [State.sampleConsole]
  cases (s.console.get n).breakPresent with
  | true => rw [if_pos rfl, State.latchStation_stopLatch, Bool.or_true]
  | false =>
    rw [if_neg Bool.false_ne_true, Bool.or_false]
    split
    case isTrue hm => rw [hm]
    case isFalse => rfl

theorem State.sampleLines_stations (s : State) : s.sampleLines.stations = s.stations := by
  refine foldl_keeps State.stations State.sampleLine (fun t n => ?_) _ s
  have hengaged : (t.engageLine n).stations = t.stations := by simp [State.engageLine]
  cases hlevel : (t.lines.get n).level with
  | false => rw [State.sampleLine_released hlevel]
  | true =>
    rw [State.sampleLine_asserted hlevel]
    split
    · exact State.eachHalf_inv (P := fun u => u.stations = t.stations) (fun u k hu => by simpa using hu) hengaged _
    · exact hengaged

/-- R96, R178: a console line in break latches the stop of its station. -/
theorem State.Resting.sampleAll_stopLatch {s : State} (hs : s.Resting) (hlatches : ∀ n, (s.stations.get n).stopLatch = false)
    (n : Fin 12) : (s.sampleAll.stations.get n).stopLatch = (s.console.get n).breakPresent := by
  rw [State.sampleAll_eq, foldl_cell (fun t m => (t.stations.get m).stopLatch) State.sampleConsole
    (fun m latch => latch || (s.console.get m).breakPresent) s.Sampled (fun t m ht => ht.trans (ht.rests.sampleConsole m))
    (fun t m k ht => by rw [t.sampleConsole_stopLatch m k, ht.console]) _ _ n (List.nodup_finRange 12) hs.sampleLines,
    if_pos (List.mem_finRange n), State.sampleLines_stations, hlatches, Bool.false_or]

theorem State.sampleAll_keeps (s : State) : s.sampleAll.lines = s.sampleLines.lines ∧ s.sampleAll.clocks = s.sampleLines.clocks := by
  have hconsole (t : State) (n : Fin 12) : (t.sampleConsole n).lines = t.lines ∧ (t.sampleConsole n).clocks = t.clocks := by
    rw [State.sampleConsole]
    split
    · simp
    · exact ⟨rfl, rfl⟩
  exact ⟨foldl_keeps State.lines _ (fun t n => (hconsole t n).1) _ _, foldl_keeps State.clocks _ (fun t n => (hconsole t n).2) _ _⟩

/-! ## ARENA_RESET (R178, R179) -/

/-- R178: what ARENA_RESET leaves before its samples: no match, no line engaged and no latch set. -/
theorem State.arenaCleared_resting (s : State) : s.arenaCleared.Resting := by
  refine ⟨fun h => ?_, fun e => ?_, rfl, fun n => ?_⟩
  · cases h <;> exact ⟨rfl, rfl, rfl⟩
  · simp [State.arenaCleared, State.reset]
  · simp [State.arenaCleared, State.reset, StationAdmission.reset]

theorem State.Resting.answer {s : State} (hs : s.Resting) (tag : Byte) (code : ResultCode) (data : List Byte) :
    s.Sampled (s.answer tag code data) := by
  obtain ⟨hreceiver, hbuffer, -⟩ :=
    Trunk.choose_keeps { s.trunk with replies := s.trunk.replies ++ [⟨tag, code, data, false⟩] }
  exact ⟨rfl, hbuffer, hreceiver, hs.congr rfl rfl rfl rfl⟩

/-- R178: cleared, answered and sampled, before the first cycle begins. -/
def State.arenaSampled (s : State) (tag : Byte) : State := (s.arenaCleared.answer tag .ok []).sampleAll

theorem State.arenaSampled_sampled (s : State) (tag : Byte) : s.arenaCleared.Sampled (s.arenaSampled tag) :=
  have hanswered := s.arenaCleared_resting.answer tag .ok []
  hanswered.trans hanswered.rests.sampleAll

/-- R100, R105: the first cycle touches the radio alone; no answer waits for its beacon, and none is left behind. -/
theorem State.firstCycle_eq {s : State} (h : s.radio.answers = []) : ∃ radio,
    s.lookReady.beginCycle 0 = { s with radio := radio } ∧ radio.pendingProfile = s.radio.pendingProfile
      ∧ radio.profile = s.radio.profile ∧ radio.cycle = 0 ∧ radio.answers = [] := by
  obtain ⟨out, counters, hcycle⟩ := s.lookReady.beginCycle_eq 0
  refine ⟨_, hcycle, rfl, rfl, rfl, ?_⟩
  have hanswers : s.lookReady.radio.answers = [] := h
  simp only [hanswers, List.drop_nil, ite_self]

/-- R178: the cleared state's radio has the pending profile, and it begins its first cycle. -/
theorem State.arenaReset_eq (s : State) (tag : Byte) : ∃ radio, s.arenaReset tag = { s.arenaSampled tag with radio := radio } ∧
    radio.pendingProfile = s.radio.pendingProfile ∧ radio.profile = s.radio.pendingProfile ∧ radio.cycle = 0
      ∧ radio.answers = [] := by
  have hradio : (s.arenaSampled tag).radio = s.arenaCleared.radio := (congrArg State.radio (s.arenaSampled_sampled tag).frame :)
  have hcycle := State.firstCycle_eq (s := s.arenaSampled tag) (by rw [hradio]; rfl)
  rwa [hradio] at hcycle

/-- R178: the lines keep their configuration and level, and the asserted ones are engaged. -/
theorem State.arenaSampled_lines (s : State) (tag : Byte) (n : Fin 4) :
    (s.arenaSampled tag).lines.get n = ({ s.lines.get n with engaged := none, ignoredStarts := 0 } : ArenaLine).sampled := by
  rw [State.arenaSampled, (State.sampleAll_keeps _).1, State.sampleLines_lines]
  simp [State.arenaCleared]

/-- R43, R178: the latches are those of the engaged STOP lines. -/
theorem State.arenaSampled_fieldStop (s : State) (tag : Byte) (h : Half) :
    ((s.arenaSampled tag).clocks.get h).fieldStop = (s.arenaSampled tag).engagedWith .stop h := by
  have hrests := (s.arenaCleared_resting.answer tag .ok []).rests
  obtain ⟨hlines, hclocks⟩ := (s.arenaCleared.answer tag .ok []).sampleAll_keeps
  have hengaged : (s.arenaSampled tag).engagedWith = (s.arenaCleared.answer tag .ok []).sampleLines.engagedWith :=
    State.engagedWith_congr
      ((congrArg State.split hrests.sampleAll.frame :).trans (congrArg State.split hrests.sampleLines.frame :).symm) fun m => by rw [State.arenaSampled, hlines]
  rw [hengaged, State.arenaSampled, hclocks]
  exact hrests.sampleLines_fieldStop (fun n => by simp [State.arenaCleared]) (fun k => by cases k <;> rfl) h

/-- R96, R178: the station latches are those of the lines in break. -/
theorem State.arenaSampled_stopLatch (s : State) (tag : Byte) (n : Fin 12) :
    ((s.arenaSampled tag).stations.get n).stopLatch = (s.console.get n).breakPresent := by
  have hrests := (s.arenaCleared_resting.answer tag .ok []).rests
  rw [State.arenaSampled, hrests.sampleAll_stopLatch fun m => by simp [State.arenaCleared, State.reset, StationAdmission.reset]]
  simp [State.arenaCleared, ConsoleLine.arenaReset]

/-- Settles O6: the blocks of the cleared state stay but for the lines, the clocks and the stations, which the samples set, and
the radio, which begins its first cycle. -/
theorem arenaResetKeepsTheConfiguration : Obligations.ArenaResetKeepsTheConfiguration := by
  intro s tag hs
  obtain ⟨radio, hreset, hpending, hprofile, hcycle, hanswers⟩ := s.counted.arenaReset_eq tag
  have hserved : exec (.arenaReset tag) s = .next (s.counted.arenaReset tag) :=
    congrArg Host.Outcome.next (State.submit_command hs tag .arenaReset)
  obtain ⟨hframe, hbuffer, hreceiver, hrests⟩ := s.counted.arenaSampled_sampled tag
  have hlines := s.counted.arenaSampled_lines tag
  have hstops := s.counted.arenaSampled_fieldStop tag
  have hlatches := s.counted.arenaSampled_stopLatch tag
  refine ⟨{ s.counted.arenaSampled tag with radio := radio }, hserved.trans (congrArg _ hreset), ?_⟩
  generalize s.counted.arenaSampled tag = u at *
  have htables : u.tables = s.counted.arenaCleared.tables := (congrArg State.tables hframe :)
  have hconsole : u.console = s.counted.arenaCleared.console := (congrArg State.console hframe :)
  refine ⟨fun h => ?tables, (congrArg State.split hframe :), (congrArg State.entries hframe :), (congrArg State.pending hframe :),
    fun n => ?lines, hpending, hprofile, hcycle, hanswers, fun h => ?clocks, fun n => ?stations, fun i => ?links, hrests.slots,
    (congrArg State.served hframe :), (congrArg State.bus hframe :), fun e => ?elements, fun e k => ?outputs, fun h => ?scores,
    hbuffer, hreceiver⟩
  case tables =>
    rw [htables]
    cases h <;> exact ⟨rfl, rfl, rfl⟩
  case lines =>
    obtain ⟨haction, htarget, hlevel, hignored⟩ :=
      ({ s.lines.get n with engaged := none, ignoredStarts := 0 } : ArenaLine).sampled_keeps
    rw [hlines n]
    exact ⟨haction, htarget, hlevel, hignored, ArenaLine.sampled_engaged rfl⟩
  case clocks =>
    obtain ⟨hidle, hcommand, hstop⟩ := hrests.clocks h
    exact ⟨hidle, hcommand, hstop, hstops h⟩
  case stations =>
    refine ⟨hlatches n, hrests.silence n, ?_⟩
    rw [hconsole]
    simp [State.arenaCleared, ConsoleLine.arenaReset, ConsoleLine.reset]
  case links =>
    rw [show u.links = State.reset.links from (congrArg State.links hframe :)]
    simp [State.reset]
  case elements =>
    refine ⟨?_, hrests.claims e, fun k => ?_⟩
    · rw [show u.elements = State.reset.elements from (congrArg State.elements hframe :)]
      simp [State.reset]
    · rw [show u.sensors = State.reset.sensors from (congrArg State.sensors hframe :)]
      simp [State.reset]
  case outputs =>
    rw [show u.outputs = s.counted.arenaCleared.outputs from (congrArg State.outputs hframe :)]
    simp [State.arenaCleared]
  case scores =>
    rw [show u.scores = State.reset.scores from (congrArg State.scores hframe :)]
    cases h <;> rfl

end Sys2Proof.Machine
end

section
/-! PROOFS. The bytes of a trunk frame (R165, R166), and what a READ is answered (R13, R159, R170). -/

namespace Sys2Proof.Machine

/-! ## The bytes of a frame (R165, R166) -/

/-- The bytes of a trunk frame between its sync byte and its check. -/
def frameBytes (kind tag : Byte) (body : List Byte) : List Byte := num16 (body.length + 2) ++ [kind, tag] ++ body

theorem frameBytes_length (kind tag : Byte) (body : List Byte) : (withCrc (frameBytes kind tag body)).length = body.length + 2 + 4 := by
  simp [withCrc, frameBytes, num16, bytes16]

theorem wordAt_append {xs : List Byte} (h : 2 ≤ xs.length) (ys : List Byte) : wordAt (xs ++ ys) 0 = wordAt xs 0 := by
  rw [wordAt, wordAt, byteAt, byteAt, byteAt, byteAt, List.getD_append _ _ _ _ (by omega), List.getD_append _ _ _ _ (by omega)]

/-- R165: the length field of a frame. -/
theorem frameBytes_wordAt {body : List Byte} (h : body.length + 2 ≤ 255) (kind tag : Byte) :
    (wordAt (withCrc (frameBytes kind tag body)) 0).toNat = body.length + 2 := by
  have hword : wordAt (withCrc (frameBytes kind tag body)) 0 = BitVec.ofNat 16 (body.length + 2) := word16_bytes _
  rw [hword, BitVec.toNat_ofNat]
  exact Nat.mod_eq_of_lt (by omega)

/-- A state whose trunk receiver has taken the bytes of a frame, undamaged. -/
def State.receiving (s : State) (bytes : List Byte) : State := s.setTrunk fun t => { t with receiver := .receiving bytes false }

theorem execAll_trunkBytes : ∀ (bytes : List Byte) (s : State),
    execAll (bytes.map fun b => .trunkByteReceived b false) s = .next (bytes.foldl (fun t b => trunkByteReceived b false t) s)
  | [], _ => rfl
  | b :: rest, s => execAll_trunkBytes rest (trunkByteReceived b false s)

/-- R165: a beginning of a frame, with more to come, is kept. -/
theorem State.takeTrunkByte_beginning {s : State} {xs ys : List Byte} (hys : ys ≠ []) (hxs : xs ≠ [])
    (hrange : 2 ≤ (wordAt (xs ++ ys) 0).toNat ∧ (wordAt (xs ++ ys) 0).toNat ≤ 255)
    (hlength : (xs ++ ys).length = (wordAt (xs ++ ys) 0).toNat + 4) :
    s.takeTrunkByte xs false = s.receiving xs := by
  have hmore : xs.length < (xs ++ ys).length := by
    rw [List.length_append]
    exact Nat.lt_add_of_pos_right (List.length_pos_of_ne_nil hys)
  rw [State.takeTrunkByte]
  split
  case isTrue htwo => rw [← wordAt_append htwo.ge ys, if_pos hrange]; rfl
  case isFalse htwo =>
    refine if_neg fun hwhole => ?_
    have hpos := List.length_pos_of_ne_nil hxs
    have hlong : 2 ≤ xs.length := by omega
    rw [wordAt_append hlong ys] at hlength
    omega

/-- R166: the last byte of a good frame accepts it. -/
theorem State.takeTrunkByte_whole {s : State} {kind tag : Byte} {body : List Byte} (h : body.length + 2 ≤ 255) (xs : List Byte)
    (hs : s.trunk.receiver = .hunting) :
    (s.receiving xs).takeTrunkByte (withCrc (frameBytes kind tag body)) false = s.acceptFrame ⟨kind, tag, body⟩ := by
  have hidle : (s.receiving xs).setTrunk (fun t => { t with receiver := .hunting }) = s := by
    simp only [State.receiving, State.setTrunk, ← hs]
  have hbody : (withCrc (frameBytes kind tag body)).take (body.length + 2 + 4 - 2) = frameBytes kind tag body := by
    rw [withCrc]
    exact List.take_left' (by simp [frameBytes, num16, bytes16])
  rw [State.takeTrunkByte, frameBytes_wordAt h, frameBytes_length, if_neg (by omega), if_pos rfl, State.judgeFrame, frameBytes_length,
    hbody, hidle]
  simp only [ne_eq, not_true, decide_false, Bool.or_false, Bool.false_eq_true, if_false]
  rfl

/-- R165, R166: the rest of a frame, taken byte by byte. -/
theorem State.takeFrame_rest {s : State} {kind tag : Byte} {body : List Byte} (h : body.length + 2 ≤ 255)
    (hs : s.trunk.receiver = .hunting) :
    ∀ (ys xs : List Byte), ys ≠ [] → xs ++ ys = withCrc (frameBytes kind tag body) →
      ys.foldl (fun t b => trunkByteReceived b false t) (s.receiving xs) = s.acceptFrame ⟨kind, tag, body⟩
  | [], _, hys, _ => absurd rfl hys
  | [b], xs, _, hwhole => by
    rw [List.foldl_cons, List.foldl_nil, trunkByteReceived_receiving rfl, hwhole]
    exact State.takeTrunkByte_whole h xs hs
  | b :: c :: ys, xs, _, hwhole => by
    have hword := frameBytes_wordAt h kind tag
    have happend : (xs ++ [b]) ++ (c :: ys) = withCrc (frameBytes kind tag body) := by rw [← hwhole, List.append_assoc]; rfl
    have hkept : (s.receiving xs).takeTrunkByte (xs ++ [b]) false = s.receiving (xs ++ [b]) :=
      State.takeTrunkByte_beginning (ys := c :: ys) (List.cons_ne_nil _ _) (by simp)
        (by rw [happend, hword]; omega) (by rw [happend, hword]; exact frameBytes_length kind tag body)
    rw [List.foldl_cons, trunkByteReceived_receiving rfl, Bool.or_false, hkept]
    exact State.takeFrame_rest h hs (c :: ys) (xs ++ [b]) (List.cons_ne_nil _ _) happend

/-- R165, R166: a hunting receiver takes the sync byte and then the frame. -/
theorem execAll_trunkFrame {s : State} (hs : s.trunk.receiver = .hunting) (kind tag : Byte) {body : List Byte}
    (h : body.length + 2 ≤ 255) :
    execAll ((trunkFrame kind tag body).map fun b => .trunkByteReceived b false) s = .next (s.acceptFrame ⟨kind, tag, body⟩) := by
  have hnonempty : withCrc (frameBytes kind tag body) ≠ [] := List.ne_nil_of_length_pos (by rw [frameBytes_length]; omega)
  have hsync : trunkByteReceived 0xA5 false s = s.receiving [] :=
    (trunkByteReceived_hunting hs _ _).trans (if_pos ⟨rfl, rfl⟩)
  rw [execAll_trunkBytes, trunkFrame, List.foldl_cons, hsync]
  exact congrArg _ (State.takeFrame_rest h hs _ [] hnonempty rfl)

/-! ## The answer to a READ (R13, R159, R170) -/

/-- The result code of a read. -/
def ReadAnswer.code : ReadAnswer → ResultCode
  | .ok _ => .ok
  | .error code => code

/-- The data of a read: none when it is refused. -/
def ReadAnswer.data : ReadAnswer → List Byte
  | .ok data => data
  | .error _ => []

theorem State.serveRead_eq (s : State) (tag : Byte) (table : ReadTable) (clock bank index : Byte) :
    s.serveRead tag table clock bank index =
      s.answer tag (ReadAnswer.code (s.readAnswer table clock bank index)) (ReadAnswer.data (s.readAnswer table clock bank index)) := by
  rw [State.serveRead]
  split
  case h_1 data h => rw [h]; rfl
  case h_2 code h => rw [h]; rfl

theorem ReadAnswer.data_of_refused {a : ReadAnswer} (h : a.code ≠ .ok) : a.data = [] := by
  cases a with
  | ok data => exact absurd rfl h
  | error code => rfl

/-- R168, R170: the frame of a READ is answered at once on a ready port. -/
theorem State.acceptFrame_read {s : State} (hs : s.Ready) (tag : Byte) (table : ReadTable) (clock bank index : Byte) :
    s.acceptFrame ⟨0x02, tag, [table.code, clock, bank, index]⟩ = s.counted.serveRead tag table clock bank index := by
  have hserved := State.submit_ready (r := .read table clock bank index) hs (by simp [Request.frame])
    (by simp [Request.frame]) (parse_read tag table clock bank index)
  rwa [State.submit, if_pos (by simp [Request.frame])] at hserved

section MatchTables

variable {α : Type} {s : State} {clock bank index : Byte} {decode : Byte → Option α} {inHalf : Half → α → Bool}
  {record : Half → α → ReadBank → List Byte}

/-- R13: a read that passes the checks of the clock, of clock B, of the index and of its half. -/
theorem State.readTable_found {h : Half} {i : α} (hclock : decodeHalf clock = some h) (hh : h = .a ∨ s.split = true)
    (hindex : decode index = some i) (hhalf : inHalf h i = true) :
    s.readTable clock bank index decode inHalf record = readNeed (decodeBank bank) .badValue fun b => .ok (record h i b) := by
  simp [State.readTable, readNeed, readRequire, hclock, hh, hindex, hhalf]

theorem State.readTable_badClock (hclock : 2 ≤ clock.toNat) :
    s.readTable clock bank index decode inHalf record = .error .badValue := by
  rw [State.readTable, decodeHalf_none hclock]
  rfl

theorem State.readTable_clockB (hs : s.split = false) : s.readTable 1 bank index decode inHalf record = .error .wrongState := by
  rw [State.readTable, hs]
  rfl

theorem State.readTable_badIndex (hindex : decode index = none) :
    s.readTable 0 bank index decode inHalf record = .error .badIndex := by
  rw [State.readTable, hindex]
  rfl

end MatchTables

/-- R13: every match table is read by the same checks, and has no index of 24 or above. -/
theorem State.readAnswer_matchTable (s : State) {table : ReadTable}
    (h : table ∈ [ReadTable.matchHeader, .slot, .station, .schedule, .profile]) :
    ∃ (α : Type) (decode : Byte → Option α) (inHalf : Half → α → Bool) (record : Half → α → ReadBank → List Byte),
      (∀ clock bank index, s.readAnswer table clock bank index = s.readTable clock bank index decode inHalf record) ∧
      ∀ index, 24 ≤ index.toNat → decode index = none := by
  have hzero (index : Byte) (hi : 24 ≤ index.toNat) : decodeZero index = none := if_neg fun h0 => by
    rw [h0] at hi
    exact absurd hi (by decide)
  simp only [List.mem_cons, List.not_mem_nil, or_false] at h
  rcases h with rfl | rfl | rfl | rfl | rfl
  · exact ⟨_, _, _, _, fun _ _ _ => rfl, hzero⟩
  · exact ⟨_, _, _, _, fun _ _ _ => rfl, fun _ hi => decodeIndex_none hi⟩
  · exact ⟨_, _, _, _, fun _ _ _ => rfl, fun _ hi => decodeIndex_none (by omega)⟩
  · exact ⟨_, _, _, _, fun _ _ _ => rfl, hzero⟩
  · exact ⟨_, _, _, _, fun _ _ _ => rfl, fun _ hi => decodeIndex_none (by omega)⟩

/-- R13, R170: a read of a slot that the clock's half has, up to its bank. -/
theorem State.readSlot_found {s : State} {h : Half} {i : Fin 24} (hh : h = .a ∨ s.split = true) (hi : s.slotHalf i = h) (bank : Byte) :
    s.readAnswer .slot (codeHalf h) bank (num8 i.val) = readNeed (decodeBank bank) .badValue fun b =>
      .ok (match b with
        | .active => ((s.active h).slots.get i).bytes
        | .pending => ((s.tables.get h).pending.slots.get i).bytes ++ [codeYN ((s.tables.get h).valid.slots.get i)]) :=
  State.readTable_found (decodeHalf_code h) hh (decodeIndex_fin24 i) (decide_eq_true hi)

/-- Settles O12: the bytes accept the frame; a READ's frame is served by `State.serveRead`, whose answer each clause reads off. -/
theorem trunkBytesAssembleTheirFrame : Obligations.TrunkBytesAssembleTheirFrame := by
  refine ⟨fun s kind tag body hunting hfits => execAll_trunkFrame hunting kind tag hfits,
    fun s tag table clock bank index hunting hs => ?_⟩
  have hframe := execAll_trunkFrame hunting 0x02 tag (body := [table.code, clock, bank, index]) (by simp)
  rw [State.acceptFrame_read hs, State.serveRead_eq] at hframe
  refine ⟨_, _, _, hframe, rfl, rfl, ReadAnswer.data_of_refused, ?slot, ?header, ?score, ?refused⟩
  case slot =>
    rintro h i rfl rfl hh rfl hi
    rw [State.readSlot_found (s := s.counted) hh hi]
    refine ⟨?_, ?_, fun hbank => ?_⟩
    · rintro rfl
      exact ⟨rfl, rfl⟩
    · rintro rfl
      exact ⟨rfl, rfl⟩
    · obtain ⟨h0, h1⟩ := byte_ne_of_two_le hbank
      rw [decodeBank, if_neg h0, if_neg h1]
      rfl
  case header =>
    rintro h rfl rfl hh rfl rfl
    have hread : s.counted.readAnswer .matchHeader (codeHalf h) 1 0 =
        .ok ((s.tables.get h).pending.header.bytes ++ s.pendingHeaderBytes h) :=
      State.readTable_found (decodeHalf_code h) hh rfl rfl
    rw [hread]
    exact ⟨rfl, by simp [ReadAnswer.data, Header.bytes, State.pendingHeaderBytes]⟩
  case score =>
    rintro h rfl rfl
    cases h <;> exact ⟨rfl, rfl⟩
  case refused =>
    intro htable
    obtain ⟨α, decode, inHalf, record, hread, hnone⟩ := s.counted.readAnswer_matchTable htable
    rw [hread]
    refine ⟨fun hclock => ?_, ?_, ?_⟩
    · rw [State.readTable_badClock hclock]; rfl
    · rintro rfl hsplit
      rw [State.readTable_clockB (s := s.counted) hsplit]; rfl
    · rintro rfl hindex
      rw [State.readTable_badIndex (hnone index hindex)]; rfl

end Sys2Proof.Machine
end

section
/-! PROOFS. One step of the model: the command at the front of the queue, and the millisecond in which no clock runs (log entries 1
and 2; R35, R61). -/

namespace Sys2Proof.Machine

/-! ## One millisecond without a RUNNING clock (R35, R61) -/

/-- R35: the tenth position of a clock that is not RUNNING is frozen. -/
theorem tickClock_of_not_running {h : Half} {s : State} (hs : (s.clocks.get h).state ≠ .running) : tickClock h s = s := if_neg hs

/-- R61: a silence timer one millisecond on. -/
def silenceCounted (silence : Option Nat) : Option Nat := silence.bind fun left => if left ≤ 1 then none else some (left - 1)

/-- R61: a stopped timer stays stopped, a running one counts or expires. -/
theorem tickSilence_stations (s : State) (n : Fin 12) :
    (tickSilence s n).stations = s.stations.modify n fun x => { x with silence := silenceCounted x.silence } := by
  rw [tickSilence]
  split
  case h_1 hn =>
    have hstopped : { s.stations.get n with silence := silenceCounted (s.stations.get n).silence } = s.stations.get n := by
      rw [hn, silenceCounted, Option.bind_none, ← hn]
    rw [Tab.modify, hstopped, Tab.set_get]
  case h_2 left hn =>
    split
    case isTrue hleft => simp [silenceTimerExpiry_eq, Tab.modify, silenceCounted, hn, hleft]
    case isFalse hleft => simp [Tab.modify, silenceCounted, hn, hleft]

theorem tickSilence_silence (s : State) (n m : Fin 12) : ((tickSilence s n).stations.get m).silence =
    if n = m then silenceCounted (s.stations.get n).silence else (s.stations.get m).silence := by
  rw [tickSilence_stations, Tab.get_modify]
  split
  case isTrue hm => rw [hm]
  case isFalse => rfl

@[simp] theorem tickSilence_keeps (s : State) (n : Fin 12) :
    (tickSilence s n).clocks = s.clocks ∧ (tickSilence s n).pending = s.pending := by
  rw [tickSilence]
  split
  · exact ⟨rfl, rfl⟩
  · split <;> simp

/-- R61: each of the twelve silence timers counts once. -/
theorem foldl_tickSilence_silence (s : State) (n : Fin 12) :
    (((List.finRange 12).foldl tickSilence s).stations.get n).silence = silenceCounted (s.stations.get n).silence := by
  have hpass := foldl_cell (fun t m => (t.stations.get m).silence) tickSilence (fun _ => silenceCounted) (fun _ => True)
    (fun _ _ => id) (fun t m k _ => tickSilence_silence t m k) (List.finRange 12) s n (List.nodup_finRange 12) trivial
  rwa [if_pos (List.mem_finRange n)] at hpass

@[simp] theorem tickLiveness_keeps (s : State) (i : Fin 24) : (tickLiveness s i).clocks = s.clocks ∧
    (tickLiveness s i).stations = s.stations ∧ (tickLiveness s i).pending = s.pending := by
  rw [tickLiveness]
  split
  · exact ⟨rfl, rfl, rfl⟩
  · split <;> simp

@[simp] theorem tickOutputs_keeps (s : State) : (tickOutputs s).clocks = s.clocks ∧ (tickOutputs s).stations = s.stations ∧
    (tickOutputs s).pending = s.pending := by
  simp [tickOutputs]

@[simp] theorem tickRadio_keeps (s : State) : (tickRadio s).clocks = s.clocks ∧ (tickRadio s).stations = s.stations ∧
    (tickRadio s).pending = s.pending := by
  simp only [tickRadio]
  split
  case isTrue => simp
  case isFalse =>
    split
    case h_1 => split <;> simp
    case h_3 => split <;> simp
    all_goals simp

@[simp] theorem tickBus_keeps (s : State) : (tickBus s).clocks = s.clocks ∧ (tickBus s).stations = s.stations ∧
    (tickBus s).pending = s.pending := by
  simp only [tickBus]
  split
  case isTrue => simp
  case isFalse =>
    split
    case isTrue => split <;> simp
    case isFalse => simp

/-- What a millisecond without a RUNNING clock does: the clocks and the queue stay, and of the stations the silence counts. -/
theorem tick_of_not_running {s : State} (hs : ∀ h, (s.clocks.get h).state ≠ .running) :
    (tick s).pending = s.pending ∧ (tick s).clocks = s.clocks ∧
    ∀ n, ((tick s).stations.get n).silence = silenceCounted (s.stations.get n).silence := by
  have hliveness : ∀ t : State, ((List.finRange 24).foldl tickLiveness t).clocks = t.clocks ∧
      ((List.finRange 24).foldl tickLiveness t).stations = t.stations ∧
      ((List.finRange 24).foldl tickLiveness t).pending = t.pending := fun t =>
    ⟨foldl_keeps State.clocks _ (by simp) _ t, foldl_keeps State.stations _ (by simp) _ t,
      foldl_keeps State.pending _ (by simp) _ t⟩
  simp only [tick, tickClock_of_not_running (hs .a), tickClock_of_not_running (hs .b), tickBus_keeps, tickRadio_keeps,
    tickOutputs_keeps, hliveness]
  exact ⟨foldl_keeps State.pending tickSilence (by simp) _ s, foldl_keeps State.clocks tickSilence (by simp) _ s,
    foldl_tickSilence_silence s⟩

/-- Settles O3: the step of an empty queue is the tick. -/
theorem idleStepCountsSilence : Obligations.IdleStepCountsSilence := by
  intro s hqueue hclocks
  obtain ⟨hpending, hfrozen, hsilence⟩ := tick_of_not_running hclocks
  exact ⟨tick s, by rw [step, hqueue], hpending.trans hqueue, hfrozen, hsilence⟩

/-- Settles O1: a queue with a command at its front is the case of `step` that runs it. -/
theorem stepRunsFrontCommand : Obligations.StepRunsFrontCommand := fun _ _ => rfl

end Sys2Proof.Machine
end

section
/-! PROOFS. Every command answers a next state and leaves the model's own queue as it is (95_what_each_step_holds.md; log entries 1
and 24). -/

namespace Sys2Proof.Machine

/-! ## The queue of commands under a request (R15, R168 to R172, R178) -/

/-- A verdict whose effect leaves the model's own queue as it is. -/
def Verdict.KeepsQueue : Verdict → Prop
  | .refuse _ => True
  | .take _ effect => ∀ t : State, (effect t).pending = t.pending

theorem Verdict.KeepsQueue.require {b : Bool} {code : ResultCode} {v : Verdict} (hv : v.KeepsQueue) :
    (Verdict.require b code v).KeepsQueue := by
  cases b with
  | true => exact hv
  | false => trivial

theorem Verdict.KeepsQueue.need {α : Type} {x : Option α} {code : ResultCode} {k : α → Verdict} (hk : ∀ a, (k a).KeepsQueue) :
    (Verdict.need x code k).KeepsQueue := by
  cases x with
  | some a => exact hk a
  | none => trivial

theorem State.clockOperand_keepsQueue {s : State} {clock : Byte} {k : Half → Verdict} (hk : ∀ h, (k h).KeepsQueue) :
    (s.clockOperand clock k).KeepsQueue := .need fun h => .require (hk h)

theorem Verdict.KeepsQueue.carryOut {v : Verdict} (hv : v.KeepsQueue) (s : State) (tag : Byte) :
    (s.carryOut tag v).pending = s.pending := by
  cases v with
  | refuse code => rfl
  | take code effect => exact (hv _).trans (s.answer_pending tag code [])

theorem TableWrite.verdict_keepsQueue (s : State) (w : TableWrite) : (w.verdict s).KeepsQueue := by
  cases w with
  | matchHeader clock index r =>
    exact State.clockOperand_keepsQueue fun h => .require <| .need fun _ => .require fun t => by simp [State.storeHeader]
  | slot clock index r =>
    exact State.clockOperand_keepsQueue fun h => .need fun _ => .require <| .need fun _ => .require <| .require <|
      .require fun t => by simp [State.storeSlot]
  | station clock index r =>
    exact State.clockOperand_keepsQueue fun h => .need fun _ => .require <| .need fun _ t => by simp [State.storeStation]
  | schedule clock index r =>
    exact State.clockOperand_keepsQueue fun h => .require <| .need fun _ => .require fun t => by simp [State.storeSchedule]
  | profile clock index r =>
    exact State.clockOperand_keepsQueue fun h => .need fun _ => .need fun _ t => by simp [State.storeProfile]
  | element clock index r => exact .need fun _ => .require <| .need fun _ => .require fun t => by simp
  | arenaLines clock index r => exact .need fun _ => .need fun _ => .need fun _ _ => rfl
  | link clock index r => exact .require <| .need fun _ _ => rfl

theorem State.setSplit_pending (s : State) (value : Bool) : (s.setSplit value).pending = s.pending := by
  rw [State.setSplit_eq]
  simp only [State.deriveHolds_keeps]
  unfold State.splitCarried
  split
  · exact (foldl_keeps State.pending _ (fun t n => by simp) _ _).trans (by simp [State.splitEmptied])
  · simp [State.splitEmptied]
  · rfl

theorem Command.verdict_keepsQueue {s : State} {c : Command} {v : Verdict} (hv : c.verdict s = some v) : v.KeepsQueue := by
  cases c <;> cases hv
  case turnover clock => exact State.clockOperand_keepsQueue fun h => .require <| .require fun t => by simp
  case start clock => exact State.clockOperand_keepsQueue fun h => .require <| .require fun t => by simp
  case pause clock => exact State.clockOperand_keepsQueue fun h => .require fun t => by simp
  case resume clock =>
    exact State.clockOperand_keepsQueue fun h => .require <| .require fun t => by dsimp only; split <;> simp
  case advance clock => exact State.clockOperand_keepsQueue fun h => .require fun t => by simp
  case abort clock => exact State.clockOperand_keepsQueue fun h => .require fun t => by simp
  case replay clock => exact State.clockOperand_keepsQueue fun h => .require fun t => by simp
  case clear clock => exact State.clockOperand_keepsQueue fun h => .require fun t => by simp
  case splitSet value => exact .need fun v => .require fun t => t.setSplit_pending v
  case fieldStop half => exact State.clockOperand_keepsQueue fun h t => by simp
  case stopClear half =>
    exact State.clockOperand_keepsQueue fun h => .require fun t => by dsimp only; split <;> simp
  case override slot value => exact .need fun _ => .need fun _ => .require fun _ => rfl
  case stationResume line => exact .need fun _ => .require fun t => by dsimp only; split <;> rfl
  case linkFlagClear slot => exact .need fun _ _ => rfl
  case applyLink => exact .require fun t => by simp
  case busMode mode period => exact .need fun m t => by dsimp only; split <;> simp
  case elementOutput element output value => exact .need fun _ => .need fun _ => .require <| .require fun _ => rfl
  case claimReset element => exact .need fun e t => by simp
  case captureClear element sensor => exact .need fun _ => .need fun _ _ => rfl
  case scoreAdjust clock alliance delta => exact .need fun _ => .need fun _ => .require <| .require fun _ => rfl
  case countersClear => exact fun _ => rfl

theorem State.eachHalf_pending {f : State → Half → State} (hf : ∀ t h, (f t h).pending = t.pending) (s : State)
    (target : LineTarget) : (s.eachHalf target f).pending = s.pending :=
  State.eachHalf_inv (P := fun t => t.pending = s.pending) (fun t h ht => (hf t h).trans ht) rfl target

theorem State.sampleLine_pending (s : State) (n : Fin 4) : (s.sampleLine n).pending = s.pending := by
  rw [State.sampleLine]
  split
  · split
    · exact (State.eachHalf_pending (fun t h => by simp) _ _).trans (by simp)
    · simp
  · rfl

theorem State.sampleConsole_pending (s : State) (n : Fin 12) : (s.sampleConsole n).pending = s.pending := by
  rw [State.sampleConsole]
  split <;> simp

theorem State.arenaReset_pending (s : State) (tag : Byte) : (s.arenaReset tag).pending = s.pending := by
  simp only [State.arenaReset, State.sampleAll, State.beginCycle_keeps, State.lookReady_keeps]
  rw [foldl_keeps State.pending State.sampleConsole State.sampleConsole_pending,
    foldl_keeps State.pending State.sampleLine State.sampleLine_pending]
  rfl

theorem State.serve_pending (s : State) (tag : Byte) (r : Request) : (s.serve tag r).pending = s.pending := by
  cases r with
  | write w => exact (w.verdict_keepsQueue s).carryOut s tag
  | read table clock bank index =>
    rw [State.serve, State.serveRead]
    split <;> rfl
  | command c =>
    rw [State.serve, State.serveCommand_verdict]
    split
    case h_1 v hv => exact (Command.verdict_keepsQueue hv).carryOut s tag
    case h_2 => exact s.arenaReset_pending tag
  | pass address count expected bytes =>
    rw [State.serve, State.servePass]
    split <;> rfl

theorem State.dispatch_pending (s : State) (f : TrunkFrame) : (s.dispatch f).pending = s.pending := by
  rw [State.dispatch]
  split
  · exact s.serve_pending _ _
  · rfl

theorem State.dispatchFrames_pending : ∀ (frames : List TrunkFrame) (s : State),
    (State.dispatchFrames frames s).pending = s.pending
  | [], _ => rfl
  | f :: rest, s => by
    rw [State.dispatchFrames]
    split
    · exact (State.dispatchFrames_pending rest _).trans (State.dispatch_pending _ f)
    · rfl

@[simp] theorem State.pump_pending (s : State) : s.pump.pending = s.pending := s.dispatchFrames_pending _

@[simp] theorem State.acceptFrame_pending (s : State) (f : TrunkFrame) : (s.acceptFrame f).pending = s.pending :=
  State.pump_pending _

theorem State.submit_pending (s : State) (tag : Byte) (r : Request) : (s.submit tag r).pending = s.pending := by
  rw [State.submit]
  split
  · exact s.acceptFrame_pending _
  · rfl

/-! ## The queue of commands under an event -/

theorem powerOnReset_pending (levels : BitVec 4) (ready : Bool) (s : State) :
    (powerOnReset levels ready s).pending = s.pending := by
  simp [powerOnReset]

theorem trunkByteReceived_pending (b : Byte) (stopBad : Bool) (s : State) :
    (trunkByteReceived b stopBad s).pending = s.pending := by
  have hjudged : ∀ bytes damaged, (s.judgeFrame bytes damaged).pending = s.pending := fun bytes damaged => by
    simp only [State.judgeFrame]
    split <;> simp
  rw [trunkByteReceived]
  split
  · split <;> rfl
  · rw [State.takeTrunkByte]
    split
    · split <;> rfl
    · split
      · exact hjudged _ _
      · rfl

theorem trunkGapTimeout_pending (s : State) : (trunkGapTimeout s).pending = s.pending := by
  rw [trunkGapTimeout]
  split <;> rfl

theorem trunkFrameSent_pending (s : State) : (trunkFrameSent s).pending = s.pending := by
  rw [trunkFrameSent]
  split <;> simp

theorem passEnd_pending (answer : Option BusFrame) (s : State) : (passEnd answer s).pending = s.pending := by
  rw [passEnd]
  split <;> simp

theorem arenaLineRisingEdge_pending (n : Fin 4) (s : State) : (arenaLineRisingEdge n s).pending = s.pending := by
  rw [arenaLineRisingEdge]
  dsimp only
  split
  · rfl
  · split
    · exact (State.eachHalf_pending (fun t h => by simp) _ _).trans (by simp)
    · exact (State.eachHalf_pending (fun t h => by simp) _ _).trans (by simp)
    · simp
    · simp

theorem arenaLineFallingEdge_pending (n : Fin 4) (s : State) : (arenaLineFallingEdge n s).pending = s.pending := by
  rw [arenaLineFallingEdge]
  split <;> simp

theorem controlFrame_pending (s : State) : (controlFrame s).pending = s.pending := by
  rw [controlFrame]
  split
  · rfl
  · split <;> simp

theorem pingEvent_pending (s : State) : (pingEvent s).pending = s.pending := by
  rw [pingEvent]
  split
  · rfl
  · split <;> simp

theorem breakStart_pending (n : Fin 12) (s : State) : (breakStart n s).pending = s.pending := by
  rw [breakStart]
  split <;> simp

theorem slotWindowBegin_pending (ready : Bool) (s : State) : (slotWindowBegin ready s).pending = s.pending := by
  rw [slotWindowBegin]
  split <;> simp

theorem radioFrameDamaged_pending (whole : Bool) (bytes : List Byte) (s : State) :
    (radioFrameDamaged whole bytes s).pending = s.pending := by
  rw [radioFrameDamaged]
  split <;> simp

theorem pollBegin_pending (s : State) : (pollBegin s).pending = s.pending := by
  rw [pollBegin]
  split
  · split <;> simp
  · rfl

theorem pollEnd_pending (answer : Option BusFrame) (s : State) : (pollEnd answer s).pending = s.pending := by
  rw [pollEnd]
  split
  · split <;> simp
  · rfl

theorem strayBytes_pending (s : State) : (strayBytes s).pending = s.pending := by
  rw [strayBytes]
  split <;> simp

/-! ## Every command -/

/-- A row that is an event answers a next state, and keeps the queue. -/
theorem exec_event_pending {c : Instr} (hr : rowRequest c = none) (s : State) :
    ∃ t, exec c s = .next t ∧ t.pending = s.pending := by
  cases c with
  | powerOnReset levels ready => exact ⟨_, rfl, powerOnReset_pending levels ready s⟩
  | trunkByteReceived byte stopBad => exact ⟨_, rfl, trunkByteReceived_pending byte stopBad s⟩
  | trunkGapTimeout => exact ⟨_, rfl, trunkGapTimeout_pending s⟩
  | trunkFrameSent => exact ⟨_, rfl, trunkFrameSent_pending s⟩
  | tenthEvent clock => exact ⟨_, rfl, by simp⟩
  | phaseExpiry clock => exact ⟨_, rfl, by simp⟩
  | arenaLineRisingEdge line => exact ⟨_, rfl, arenaLineRisingEdge_pending line s⟩
  | arenaLineFallingEdge line => exact ⟨_, rfl, arenaLineFallingEdge_pending line s⟩
  | controlFrame => exact ⟨_, rfl, controlFrame_pending s⟩
  | ping => exact ⟨_, rfl, pingEvent_pending s⟩
  | silenceTimerExpiry station => exact ⟨_, rfl, by simp⟩
  | consoleCharacterReceived line byte framing => exact ⟨_, rfl, rfl⟩
  | gap line => exact ⟨_, rfl, rfl⟩
  | breakStart line => exact ⟨_, rfl, breakStart_pending line s⟩
  | breakEnd line => exact ⟨_, rfl, rfl⟩
  | consoleFrameSent line => exact ⟨_, rfl, rfl⟩
  | cycleBegin ready => exact ⟨_, rfl, by simp [cycleBegin]⟩
  | slotWindowBegin ready => exact ⟨_, rfl, slotWindowBegin_pending ready s⟩
  | slotWindowEnd => exact ⟨_, rfl, by simp [slotWindowEnd]⟩
  | replyReceived arena slot kit battery status payload => exact ⟨_, rfl, by simp⟩
  | joinReceived arena kit kitClass => exact ⟨_, rfl, by simp⟩
  | radioFrameDamaged whole bytes => exact ⟨_, rfl, radioFrameDamaged_pending whole bytes s⟩
  | livenessExpiry slot => exact ⟨_, rfl, by simp⟩
  | pulseExpiry element output => exact ⟨_, rfl, rfl⟩
  | blinkPeriodEnd element output => exact ⟨_, rfl, rfl⟩
  | sweepStart => exact ⟨_, rfl, by simp⟩
  | pollBegin => exact ⟨_, rfl, pollBegin_pending s⟩
  | pollEnd answer => exact ⟨_, rfl, pollEnd_pending answer s⟩
  | elementBusStrayBytes bytes => exact ⟨_, rfl, strayBytes_pending s⟩
  | passEnd answer => exact ⟨_, rfl, passEnd_pending answer s⟩
  | busResetWaitEnd => exact ⟨_, rfl, by simp⟩
  | holdTimerExpiry element => exact ⟨_, rfl, by simp⟩
  | _ => cases hr

/-- Settles O2: a row is a request at the trunk port or an event, and neither reaches the queue. -/
theorem everyCommandKeepsTheQueue : Obligations.EveryCommandKeepsTheQueue := by
  intro c s
  cases hr : rowRequest c with
  | some r =>
    obtain ⟨tag, ht⟩ := exec_of_rowRequest hr s
    exact ⟨_, ht, s.submit_pending tag r⟩
  | none => exact exec_event_pending hr s

end Sys2Proof.Machine
end
